-- ==== Sys2Proof/Word.lean ====
section
/-! DEFINITION. The words of the KS-1024: bytes, times, counters, the 64 inputs of one card, and the index types of
section 5.2 of spec/00_scope.md. -/

namespace Sys2Proof

/-- One byte of a card lane, of a desk port or of a table record. -/
abbrev Byte := BitVec 8

/-- A value of the Time Base: a 32-bit count of milliseconds that wraps (section 5.3 of the scope chapter, R163). -/
abbrev Time := BitVec 32

/-- A 16-bit counter of a lane, a card, the desk link or the Report Queue (R8, R20, R152, R97). -/
abbrev Counter := BitVec 16

/-- One bit for each of the 64 inputs of a card; bit b is input b (R165). -/
abbrev Inputs := BitVec 64

/-- A card, 0 to 15. Card n is the card wired to lane n, so the same type numbers the lanes. -/
abbrev CardIdx := Fin 16

/-- A relay entry, 0 to 767. -/
abbrev RelayIdx := Fin 768

/-- An indication, 0 to 511. -/
abbrev IndicationIdx := Fin 512

/-- A Class record, 0 to 7. -/
abbrev ClassIdx := Fin 8

/-- A Pattern record, 0 to 31. -/
abbrev PatternIdx := Fin 32

/-- A condition, 0 to 10, in the order of the table of R157. -/
abbrev ConditionIdx := Fin 11

/-- A block of 32 indications, 0 to 15 (R112). -/
abbrev BlockIdx := Fin 16

/-- A node number as six header bits hold it: 0 to 62, with 63 meaning broadcast (R142). -/
abbrev Node := Fin 64

/-- An indication code, 0 to 15 (R79). UNDEFINED is not a code. -/
abbrev Code := Fin 16

end Sys2Proof
end

