-- ==== Sys2Proof/Config.lean ====
section
/-! DEFINITION. The constants of this part that the spec states, and the free values: what the spec leaves open, each an
opaque constant that no proof can see into. -/

namespace Sys2Proof.Config

/-- The vendor code of the IDENTIFY answer (R153). -/
def vendorCode : Nat := 17

/-- The part code of the IDENTIFY answer (R153). -/
def partCode : Nat := 1024

/-- The revision of the IDENTIFY answer (R153). -/
def revision : Nat := 1

/-- FREE VALUE (log 4). When a block offers a Change Record while CONDITION records of the Condition Unit wait to be
taken, R100 lets the queue take the offers in any order between the two; and R160 lets the queue take the records that
one request makes the unit offer at any point between them. At the nth such place of a run the queue takes
`conditionsBefore n` CONDITION records first, one after another, those among them that the taking itself brings
included, or all of them where fewer come to wait. -/
opaque conditionsBefore : Nat → Nat

/-- FREE VALUE (log 9). The place that a frame or a STATUS READ answer built while a pass may be in flight finds the pass at
(R58, R89, R162), for the nth choice of a run. -/
opaque passPlace : Nat → Nat

/-- FREE VALUE (log 13). The byte by which a frame of a PROVING train gives the card's proving status. R167 names
the field and gives it no encoding. The argument is true for FAIL. -/
opaque provingStatusByte : Bool → Byte

/-- FREE VALUE (log 14). The first-item field of an aborted train frame, which holds no item (R122, R167). The argument
is the train's next item. -/
opaque abortedFirstItem : Nat → BitVec 16

end Sys2Proof.Config
end

