-- ==== Sys2Proof/Syntax.lean ====
section
/-! DEFINITION. The commands of the KS-1024: one constructor for each row of spec/opcode_table.json, in the table's order.
Each row is one whole and indivisible step of the part (spec/95_what_each_step_holds.md). -/

namespace Sys2Proof

/-- One character as a Lane Receiver takes it in: its eight data bits, and whether its stop bit was there (R3). -/
structure LineChar where
  byte : Byte
  stop : Bool
  deriving DecidableEq, Repr

/-- One character as a desk port takes it in: its eight data bits, whether its stop bit was there, and whether the line
had been idle for 15 µs before it (R143). -/
structure PortChar where
  byte : Byte
  stop : Bool
  afterIdle : Bool
  deriving DecidableEq, Repr

/-- The two desk ports (section 4 of the scope chapter). -/
inductive Port where
  | upstream
  | downstream
  deriving DecidableEq, Repr

/-- The commands. An event at a pin carries what the pin brings: a lane, a run of characters, the straps. A step of
the part's own carries the card it is about, where it is about one. A request of the desk travels in a desk frame
(`upstreamFrameReceived`), waits at the Desk Link Unit, and is then taken by its owner, so the commands named
after requests carry nothing: they act on the oldest request that waits (R150). -/
inductive Instr where
  /-- POWER_ON. The RESET input or the application of power, with the node straps NS0 to NS5 as they stand. -/
  | powerOn (straps : BitVec 6)
  /-- LANE_CARRIER_RISE. A start bit on a lane whose carrier flag is clear. -/
  | laneCarrierRise (lane : CardIdx)
  /-- LANE_CARRIER_FALL. The lane has been idle for 4 ms. -/
  | laneCarrierFall (lane : CardIdx)
  /-- CARD_FRAME_END. A run of characters has ended on the lane after 60 µs of idle. `changes` says how often the
  Time Base's counter has changed within that idle time, by a millisecond or a TIME SET: the run's last character ended
  before so many of its latest changes (log 3). -/
  | cardFrameEnd (lane : CardIdx) (run : List LineChar) (changes : Nat)
  /-- SUPERVISOR_FRAME_TAKEN. The Card Supervisor takes the good frame at the head of the card's waiting events. -/
  | supervisorFrameTaken (card : CardIdx)
  /-- CLOSE_EXPIRY. The card's close timer expires. -/
  | closeExpiry (card : CardIdx)
  /-- CARD_CARRIER_FALL. The Card Supervisor takes a carrier fall at the head of the card's waiting events. -/
  | cardCarrierFall (card : CardIdx)
  /-- CARD_CARRIER_RISE. The Card Supervisor takes a carrier rise at the head of the card's waiting events. -/
  | cardCarrierRise (card : CardIdx)
  /-- CONVERSION_START. The Conversion Engine removes the oldest queued frame and acts on it. -/
  | conversionStart
  /-- CONVERSION_COMPLETE. The conversion in flight completes. -/
  | conversionComplete
  /-- CARD_OUT_EVENT. The Relay Evaluator takes a card-out event. -/
  | cardOutEvent
  /-- KNOWN_INPUTS_EVENT. The Relay Evaluator takes a known-inputs event. -/
  | knownInputsEvent
  /-- COMMIT_SWAP_BEGIN. The Conversion Engine takes a waiting commit swap. -/
  | commitSwapBegin
  /-- COMMIT_SWAP_COMPLETE. The swap in progress takes its steps and completes. -/
  | commitSwapComplete
  /-- CHECK_PASS. The commit check completes with a pass. -/
  | checkPass
  /-- CHECK_REFUSED. The commit check completes at its first failure. -/
  | checkRefused
  /-- DEFERRED_ANSWER_PLACED. The oldest deferred COMMIT answer is placed in the Response Queue. -/
  | deferredAnswerPlaced
  /-- UPSTREAM_TX_DONE. An upstream frame has been sent, or a source begins to wait: the arbiter chooses. -/
  | upstreamTxDone
  /-- REFRESH_EXPIRY. The refresh timer expires. -/
  | refreshExpiry
  /-- TRAIN_FRAME_BUILD. The next frame of a RUNNING train is built and placed. -/
  | trainFrameBuild
  /-- ABORTED_FRAME_BUILD. The final frame of an ABORTING train is built and placed. -/
  | abortedFrameBuild
  /-- UPSTREAM_FRAME_RECEIVED. A desk frame ends on the upstream port: the characters received since the end of the
  frame before it, up to the one that ends this frame. -/
  | upstreamFrameReceived (chars : List PortChar)
  /-- DESK_RX_IDLE_TIMEOUT. A desk port's line has been idle for 15 µs: the characters received since the end of
  the frame before it. -/
  | deskRxIdleTimeout (port : Port) (chars : List PortChar)
  /-- DOWNSTREAM_FRAME_RECEIVED. A desk frame ends on the downstream port. -/
  | downstreamFrameReceived (chars : List PortChar)
  /-- DOWNSTREAM_TX_DONE. The downstream transmitter is free and takes its next frame. -/
  | downstreamTxDone
  /-- IDENTIFY, taken by the Desk Link Unit. -/
  | identify
  /-- SET_CHAIN, taken by the Desk Link Unit. -/
  | setChain
  /-- RESTART, taken by every block. -/
  | restart
  /-- ABORT, taken by the Desk Link Unit. -/
  | abort
  /-- READMIT: CARD CONTROL with action 1, taken by the Card Supervisor. -/
  | readmit
  /-- CLEAR_PROVING: CARD CONTROL with action 2, taken by the Card Supervisor. -/
  | clearProving
  /-- CLEAR_COUNTERS: CARD CONTROL with action 3, taken by the Card Supervisor. -/
  | clearCounters
  /-- TABLE_WRITE, taken by the Table Store. -/
  | tableWrite
  /-- TABLE_READ, taken by the Table Store. -/
  | tableRead
  /-- COPY_ACTIVE_TO_STAGING, taken by the Table Store. -/
  | copyActiveToStaging
  /-- COMMIT, taken by the Table Store. -/
  | commit
  /-- SNAPSHOT, taken by the Image Reader. -/
  | snapshot
  /-- REFRESH_CONTROL, taken by the Image Reader. -/
  | refreshControl
  /-- TIME_SET, taken by the Time Base. -/
  | timeSet
  /-- STATUS_READ, taken by the Condition Unit. -/
  | statusRead
  /-- CONDITION_ENABLE, taken by the Condition Unit. -/
  | conditionEnable
  /-- CONDITION_ACK, taken by the Condition Unit. -/
  | conditionAck
  /-- TIME_BASE_MILLISECOND. A millisecond of the reference clock has passed. -/
  | timeBaseMillisecond
  deriving DecidableEq, Repr

end Sys2Proof
end

