-- ==== Sys2Proof/Decode.lean ====
section
/-! DEFINITION. Everything that reaches or leaves the part as bytes: byte order and packing (R165), the CRC-16 (R4, R166),
the card frame (R3, R166), the desk frame (R142, R143, R167), and the opcode table's words. -/

namespace Sys2Proof

/-- The command a word spells by the bits of spec/opcode_table.json. No row of the table gives bits, so no word spells
a command. -/
def decodeTableWord (_nbits _w : Nat) : Option Instr := none

/-! ### Byte order and packing (R165) -/

/-- The two bytes of a 16-bit number, most significant first. -/
def be16 (n : BitVec 16) : List Byte := [n.extractLsb' 8 8, n.extractLsb' 0 8]

/-- The four bytes of a 32-bit number, most significant first. -/
def be32 (n : BitVec 32) : List Byte :=
  [n.extractLsb' 24 8, n.extractLsb' 16 8, n.extractLsb' 8 8, n.extractLsb' 0 8]

/-- The 16-bit number whose more significant byte is `hi`. -/
def ofBe16 (hi lo : Byte) : BitVec 16 := hi ++ lo

/-- The 32-bit number of four bytes, most significant first. -/
def ofBe32 (a b c d : Byte) : BitVec 32 := ((a ++ b : BitVec 16) ++ (c ++ d : BitVec 16) : BitVec 32)

/-- The byte at place `k` of a list of bytes; 0 beyond its end. -/
def byteAt (bs : List Byte) (k : Nat) : Byte := bs.getD k 0

/-- 64 flags as eight bytes: byte k holds items 8k to 8k + 7, bit i holding item 8k + i. -/
def packInputs (x : Inputs) : List Byte :=
  [x.extractLsb' 0 8, x.extractLsb' 8 8, x.extractLsb' 16 8, x.extractLsb' 24 8,
   x.extractLsb' 32 8, x.extractLsb' 40 8, x.extractLsb' 48 8, x.extractLsb' 56 8]

/-- The 64 flags that eight bytes hold, the packing of `packInputs`. -/
def unpackInputs (b0 b1 b2 b3 b4 b5 b6 b7 : Byte) : Inputs :=
  (((b7 ++ b6 : BitVec 16) ++ (b5 ++ b4 : BitVec 16) : BitVec 32) ++
    ((b3 ++ b2 : BitVec 16) ++ (b1 ++ b0 : BitVec 16) : BitVec 32) : BitVec 64)

/-- One flag that fills a whole byte: 1 when set, 0 when clear. DEDUCED (log 12). -/
def flagByte (b : Bool) : Byte := if b then 1 else 0

/-- The byte that holds up to eight flags, flag i in bit i. -/
def flagsByte (bs : List Bool) : Byte :=
  bs.foldr (fun b acc => (acc <<< 1) ||| flagByte b) 0

/-! ### CRC-16 (R4, R166) -/

/-- One of the eight steps of the CRC register. -/
def crcStep (r : BitVec 16) : BitVec 16 := if r.msb then (r <<< 1) ^^^ 0x1021#16 else r <<< 1

/-- The CRC register after one covered byte: the byte is combined into its upper half, then eight steps are taken. -/
def crcByte (r : BitVec 16) (b : Byte) : BitVec 16 :=
  crcStep (crcStep (crcStep (crcStep (crcStep (crcStep (crcStep (crcStep (r ^^^ (b ++ 0#8)))))))))

/-- The CRC-16 of the covered bytes: preset FFFFh, no inversion. -/
def crc16 (bs : List Byte) : BitVec 16 := bs.foldl crcByte 0xFFFF#16

/-! ### The card frame (R3 to R5, R166) -/

/-- What a card frame carries once its length and CRC are good and its reserved bits are 0. -/
structure CardFrame where
  /-- the card number of the header -/
  card : CardIdx
  /-- the proving flag P -/
  proving : Bool
  /-- the card-fault flag CF -/
  cardFault : Bool
  code : Byte
  sequence : Byte
  samples : Inputs
  deriving DecidableEq, Repr

/-- What the length, CRC and reserved-bit checks make of a run of characters. -/
inductive RunCheck where
  /-- no character at all: there is no run -/
  | noRun
  /-- R3 fails -/
  | lengthError
  /-- R4 fails -/
  | crcError
  /-- R5 fails -/
  | malformed
  /-- the three checks pass -/
  | passed (f : CardFrame)
  deriving DecidableEq, Repr

/-- The start delimiter of a card frame (R166). -/
def cardDelimiter : Byte := 0x7E#8

/-- The fields of the thirteen bytes of a card frame whose checks have passed (R166). -/
def readCardFrame (body : List Byte) : CardFrame :=
  { card := ⟨(byteAt body 0).toNat % 16, Nat.mod_lt _ (by decide)⟩
    proving := (byteAt body 0).getLsbD 4
    cardFault := (byteAt body 0).getLsbD 5
    code := byteAt body 1
    sequence := byteAt body 2
    samples := unpackInputs (byteAt body 3) (byteAt body 4) (byteAt body 5) (byteAt body 6)
      (byteAt body 7) (byteAt body 8) (byteAt body 9) (byteAt body 10) }

/-- The checks of R3, R4 and R5 on a run of characters, in that order. -/
def checkRun : List LineChar → RunCheck
  | [] => .noRun
  | d :: rest =>
    let body := rest.map LineChar.byte
    if d.byte ≠ cardDelimiter ∨ d.stop = false ∨ rest.any (fun c => !c.stop) ∨ body.length ≠ 13 then .lengthError
    else if crc16 (body.take 11) ≠ ofBe16 (byteAt body 11) (byteAt body 12) then .crcError
    else if (byteAt body 0).extractLsb' 6 2 ≠ 0 then .malformed
    else .passed (readCardFrame body)

/-- The header byte of a card frame, its reserved bits 0 (R166). -/
def cardHeader (f : CardFrame) : Byte :=
  BitVec.ofNat 8 (f.card.val + (if f.proving then 16 else 0) + (if f.cardFault then 32 else 0))

/-- The eleven bytes of a card frame that its CRC covers. -/
def cardFrameCovered (f : CardFrame) : List Byte :=
  cardHeader f :: f.code :: f.sequence :: packInputs f.samples

/-- The run of characters by which a card sends a frame: delimiter, eleven bytes, CRC (R166). -/
def encodeCardFrame (f : CardFrame) : List LineChar :=
  (cardDelimiter :: (cardFrameCovered f ++ be16 (crc16 (cardFrameCovered f)))).map (fun b => ⟨b, true⟩)

/-! ### The desk frame (R142, R143, R167) -/

/-- A desk frame: its header bytes as they stand on the line (reserved bits included, so that a forwarded frame is sent
byte for byte) and its payload. The length byte and the CRC follow from these. -/
structure DeskFrame where
  destination : Byte
  source : Byte
  kind : Byte
  tag : Byte
  payload : List Byte
  deriving DecidableEq, Repr

/-- The bytes of a desk frame that its CRC covers: the five header bytes and the payload. -/
def DeskFrame.covered (f : DeskFrame) : List Byte :=
  f.destination :: f.source :: f.kind :: f.tag :: BitVec.ofNat 8 f.payload.length :: f.payload

/-- The bytes of a desk frame on the line: start code, header, payload, CRC-16. -/
def DeskFrame.bytes (f : DeskFrame) : List Byte :=
  0xA5#8 :: 0x5A#8 :: (f.covered ++ be16 (crc16 f.covered))

/-- The node that the low six bits of a header byte name; the reserved bits are ignored (R167). -/
def nodeOf (b : Byte) : Node := ⟨b.toNat % 64, Nat.mod_lt _ (by decide)⟩

/-- The header byte that names a node, its reserved bits 0. -/
def nodeByte (n : Node) : Byte := BitVec.ofNat 8 n.val

/-- The broadcast node. -/
def broadcastNode : Node := 63

/-- The characters from the first start code on. A byte that does not begin a start code is discarded, and the byte
after it is examined afresh; a 5Ah that comes only after the line has been idle does not complete one (R143). -/
def hunt : List PortChar → Option (List PortChar)
  | [] => none
  | [_] => none
  | a :: b :: rest =>
    if a.byte = 0xA5#8 ∧ b.byte = 0x5A#8 ∧ b.afterIdle = false then some (a :: b :: rest) else hunt (b :: rest)

/-- What a port's receiver makes of the characters received since the frame before. -/
inductive Reception where
  /-- no start code: nothing has begun -/
  | nothing
  /-- a frame has begun and its last CRC byte has not been received -/
  | unfinished
  /-- the characters go on beyond the frame's end -/
  | overrun
  /-- a bad frame (R143) -/
  | bad
  /-- a good frame (R143) -/
  | good (f : DeskFrame)
  deriving DecidableEq, Repr

/-- The judgement of R143 on a frame that has begun, from its start code on. The frame takes as many payload bytes as its
length field gives, above 240 too, and is judged at its last CRC byte. A character after an idle line shows that the line
fell idle within the frame. -/
def judge (frame : List PortChar) : Reception :=
  let bytes := frame.map PortChar.byte
  let len := (byteAt bytes 6).toNat
  let payload := (bytes.drop 7).take len
  let covered := (bytes.drop 2).take (5 + len)
  if (frame.drop 2).any PortChar.afterIdle then .bad
  else if bytes.length < 9 + len then .unfinished
  else if 9 + len < bytes.length then .overrun
  else if 240 < len then .bad
  else if frame.any (fun c => !c.stop) then .bad
  else if crc16 covered ≠ ofBe16 (byteAt bytes (7 + len)) (byteAt bytes (8 + len)) then .bad
  else .good ⟨byteAt bytes 2, byteAt bytes 3, byteAt bytes 4, byteAt bytes 5, payload⟩

/-- A port's receiver over the characters received since the frame before (R143). -/
def receive (chars : List PortChar) : Reception :=
  match hunt chars with
  | none => .nothing
  | some frame => judge frame

/-- The characters by which a sender puts a desk frame on the line. -/
def encodeDeskFrame (f : DeskFrame) : List PortChar := f.bytes.map (fun b => ⟨b, true, false⟩)

end Sys2Proof
end

