-- ==== Sys2Proof/Machine/Types.lean ====
section
/-! DEFINITION. The state each block of the KS-1024 owns (section 2 of the scope chapter), as plain data. One structure for
each block; a field's docstring names the rule that gives it. -/

namespace Sys2Proof.Machine

/-! ### Time Base (R163) -/

/-- One change of the Time Base's counter. -/
structure TimeChange where
  /-- the counter's value before the change -/
  before : Time
  /-- the amount by which a TIME SET moved the counter; 0 for a millisecond (R164) -/
  shift : Time
  /-- is the change a millisecond (R163)? -/
  millisecond : Bool
  deriving DecidableEq, Repr

/-- The Time Base. `changes` is the model's own (log 3): the latest changes of the counter, newest first, from the latest
millisecond but one on. They let a frame be stamped at the end of its last CRC character, up to 60 µs before the step
that ends its run (R7). -/
structure TimeBase where
  /-- milliseconds, wrapping after 4,294,967,295 (R163) -/
  counter : Time
  /-- the time-valid flag (R163) -/
  valid : Bool
  changes : List TimeChange
  deriving DecidableEq, Repr

/-! ### Lane Receivers (R1) -/

/-- One Lane Receiver: carrier flag, last accepted sequence number, six lane counters (R1, R8). -/
structure LaneReceiver where
  carrier : Bool
  lastSequence : Option Byte
  goodFrames : Counter
  crcErrors : Counter
  lengthErrors : Counter
  malformed : Counter
  repeats : Counter
  missing : Counter
  deriving DecidableEq, Repr

/-- A good frame as its Lane Receiver hands it to the Card Supervisor (R7). `shift` is the amount by which TIME SETs
taken since the stamp have moved the Time Base (R22). -/
structure GoodFrame where
  frame : CardFrame
  arrival : Time
  shift : Time
  deriving DecidableEq, Repr

/-- An event of a lane on its way to the Card Supervisor (R2, R7). -/
inductive LaneEvent where
  | carrierRise
  | carrierFall
  | frame (f : GoodFrame)
  deriving DecidableEq, Repr

/-! ### Card Supervisor (R19, R20) -/

/-- Why a card is FAULTY (R19). -/
inductive CardFault where
  | early
  | code
  | lane
  deriving DecidableEq, Repr

/-- The seven card states; the fault reason is present in FAULTY alone (R19). -/
inductive CardState where
  | off
  | absent
  | waiting
  | inService
  | suspect
  | late
  | faulty (reason : CardFault)
  deriving DecidableEq, Repr

/-- A card's proving status (R19). -/
inductive ProvingStatus where
  | ok
  | fail
  deriving DecidableEq, Repr

/-- The reference time with the open time and close time that are present with it; the close timer runs while it is
there (R19). -/
structure CardWindow where
  reference : Time
  openTime : Time
  closeTime : Time
  deriving DecidableEq, Repr

/-- The eight card counters (R20). -/
structure CardCounters where
  accepted : Counter
  early : Counter
  lateExpiries : Counter
  mismatches : Counter
  dirtyProving : Counter
  flagDisagreements : Counter
  queueDrops : Counter
  stale : Counter
  deriving DecidableEq, Repr

/-- The supervision context of one card (R19). -/
structure CardContext where
  state : CardState
  window : Option CardWindow
  earlyRun : Nat
  readmissionRun : Nat
  errorMap : Inputs
  proving : ProvingStatus
  cleanRun : Nat
  counters : CardCounters
  deriving DecidableEq, Repr

/-! ### Card Frame Queue and Conversion Engine (R9, R12, R15) -/

/-- One entry of the Card Frame Queue (R9). -/
structure QueueEntry where
  lane : CardIdx
  card : CardIdx
  samples : Inputs
  arrival : Time
  deriving DecidableEq, Repr

/-- The Conversion Engine's states (R12): with the frame in hand and whether it is converted with a relay pass, decided once
at its removal (R13, R14); and with the Time Base value at which the swap in progress was taken (R138, log 10). -/
inductive EngineState where
  | idle
  | converting (entry : QueueEntry) (withPass : Bool)
  | swapping (takenAt : Time)
  deriving DecidableEq, Repr

/-- The Conversion Engine: its state, and whether a swap waits (R12, R16). -/
structure Engine where
  state : EngineState
  swapWaiting : Bool
  deriving DecidableEq, Repr

/-- The Input Image: for each card, 64 sample values and 64 known flags (R15). -/
structure InputImage where
  values : Vector Inputs 16
  known : Vector Inputs 16
  deriving DecidableEq, Repr

/-! ### Relay Evaluator (R41, R52, R56) -/

/-- A steady contact state. -/
inductive Direction where
  | up
  | down
  deriving DecidableEq, Repr

/-- The fault reasons of UNPROVEN (R41). -/
inductive UnprovenReason where
  | inputUnknown
  | cardOut
  | newEntry
  deriving DecidableEq, Repr

/-- The fault reasons of CONTRADICTORY (R41). -/
inductive ContradictionReason where
  | bothClosed
  | transitTimeout
  deriving DecidableEq, Repr

/-- A relay's contact state with the fault reason that is set together with it (R41, R42). -/
inductive Contact where
  | steady (d : Direction)
  | transit
  | contradictory (reason : ContradictionReason)
  | unproven (reason : UnprovenReason)
  deriving DecidableEq, Repr

/-- The overlays (R41). -/
inductive Overlay where
  | none
  | flashing
  | flickering
  deriving DecidableEq, Repr

/-- The values a candidate may have (R41). -/
inductive CandidateValue where
  | up
  | down
  | both
  deriving DecidableEq, Repr

/-- The seven statuses (R41, R52). -/
inductive Status where
  | down
  | up
  | transit
  | flashing
  | flickering
  | contradictory
  | unproven
  deriving DecidableEq, Repr

/-- The Relay Runtime record (R41). The fault reason stands inside the contact state. -/
structure RelayRuntime where
  contact : Contact
  overlay : Overlay
  candidate : Option CandidateValue
  candidateLength : Nat
  /-- the sample time at which the present candidate began; with no candidate it means nothing (log 28) -/
  candidateTime : Time
  transitLength : Nat
  priorSteady : Option Direction
  runLength : Nat
  flickerLevel : Nat
  flashCount : Nat
  status : Status
  statusTime : Time
  deriving DecidableEq, Repr

/-- An event from the Card Supervisor to the Relay Evaluator (section 3.6). A known-inputs event names the inputs whose
known flag fell and those whose flag rose. -/
inductive CardEvent where
  | cardOut (card : CardIdx) (time : Time)
  | knownInputs (card : CardIdx) (fallen risen : Inputs) (time : Time)
  deriving DecidableEq, Repr

/-! ### Indication Evaluator (R79) -/

/-- One entry of the Indication Image; a code of `none` is UNDEFINED (R79). -/
structure ImageEntry where
  defined : Bool
  code : Option Code
  changeTime : Time
  deriving DecidableEq, Repr

/-! ### Report Queue (R96, R97) -/

/-- The subject of a Change Record: subject kind with subject index (R96). -/
inductive Subject where
  | indication (i : IndicationIdx)
  | relay (r : RelayIdx)
  | card (c : CardIdx)
  | condition (n : ConditionIdx)
  | restarted
  | resync
  deriving DecidableEq, Repr

/-- The value of a Change Record (R96). A RELAY record's contact state gives the fault reason beside the status. -/
inductive RecordValue where
  | indication (code : Option Code)
  | relay (status : Status) (contact : Contact)
  | card (state : CardState) (proving : ProvingStatus)
  | condition (n : ConditionIdx)
  | restarted
  | resync
  deriving DecidableEq, Repr

/-- A Change Record (R96). -/
structure ChangeRecord where
  subject : Subject
  value : RecordValue
  firstTime : Time
  lastTime : Time
  count : Nat
  timeValid : Bool
  deriving DecidableEq, Repr

/-- The Report Queue (R97). -/
structure ReportQueue where
  /-- oldest first -/
  records : List ChangeRecord
  resyncNeeded : Bool
  refused : Counter
  high : Bool
  frameNumber : Byte
  deriving DecidableEq, Repr

/-! ### Image Reader (R112, R119) -/

/-- The regular block of the refresh walker (R112). -/
inductive RegularBlock where
  | none
  | due
  | overdue
  deriving DecidableEq, Repr

/-- The six item kinds of a SNAPSHOT (R119). -/
inductive ItemKind where
  | indication
  | relay
  | input
  | proving
  | card
  | counters
  deriving DecidableEq, Repr

/-- A train in flight: its request, the clamped count and the next item (R112, R118, R120). -/
structure TrainWork where
  source : Node
  tag : Byte
  kind : ItemKind
  card : CardIdx
  start : Nat
  count : Nat
  /-- index of the next item within the collection -/
  next : Nat
  deriving DecidableEq, Repr

/-- The snapshot train (R112). -/
inductive Train where
  | none
  | running (work : TrainWork)
  | aborting (work : TrainWork)
  deriving DecidableEq, Repr

/-- The Image Reader (R112). -/
structure ImageReader where
  enable : Bool
  interval : Nat
  /-- the refresh timer: the next expiry time while it runs -/
  nextExpiry : Option Time
  walker : BlockIdx
  regular : RegularBlock
  /-- the next urgent block while the urgent sweep is active -/
  urgent : Option BlockIdx
  train : Train
  deriving DecidableEq, Repr

/-! ### Table Store (R124, R125, R130) -/

/-- The proving interval N (section 2.1). -/
inductive ProvingInterval where
  | off
  | n4
  | n8
  | n16
  | n32
  deriving DecidableEq, Repr

/-- The proving mode (R31). -/
inductive ProvingMode where
  | latched
  | autoclear
  deriving DecidableEq, Repr

/-- A Card table entry, all nine fields as written (R125). -/
structure CardEntry where
  enable : Bool
  expectedCode : Byte
  windowOpen : Nat
  windowClose : Nat
  interval : ProvingInterval
  pattern0 : Inputs
  pattern1 : Inputs
  mask : Inputs
  mode : ProvingMode
  clearOnLoss : Bool
  deriving DecidableEq, Repr

/-- A flash window; its three fields are present together (R125). -/
structure FlashWindow where
  fmin : Nat
  fmax : Nat
  fconf : Nat
  deriving DecidableEq, Repr

/-- The fields a Relay entry of every kind other than NONE has. -/
structure RelayCommon where
  card : CardIdx
  settleUp : Nat
  settleDown : Nat
  flash : Option FlashWindow
  flickerClass : ClassIdx
  deriving DecidableEq, Repr

/-- A Relay table entry in its stored form: a kind has the fields it uses and no others (R125). -/
inductive RelayEntry where
  | none
  | paired (front back : Fin 64) (transitLimit : Nat) (common : RelayCommon)
  | frontOnly (front : Fin 64) (common : RelayCommon)
  | backOnly (back : Fin 64) (common : RelayCommon)
  deriving DecidableEq, Repr

/-- A Class record; one that is not loaded is stored with its four fields 0 (R125). -/
structure ClassRecord where
  loaded : Bool
  weight : Nat
  decay : Nat
  upper : Nat
  lower : Nat
  deriving DecidableEq, Repr

/-- The transit policy of an indication; a transit code is present under CODE alone (R125). -/
inductive TransitPolicy where
  | hold
  | code (c : Code)
  deriving DecidableEq, Repr

/-- A defined Indication entry. -/
structure IndicationEntry where
  /-- r0, r1, … : one to four relays; the positions beyond are absent (R77) -/
  inputs : List RelayIdx
  pattern : PatternIdx
  doubt : Code
  policy : TransitPolicy
  report : Bool
  deriving DecidableEq, Repr

/-- A Pattern record; one that is not loaded is stored with 81 codes of 0 (R78, R125). -/
structure PatternRecord where
  loaded : Bool
  codes : Vector Code 81
  deriving DecidableEq, Repr

/-- One bank: the five tables (R124). An Indication entry of `none` is undefined (R77). -/
structure Bank where
  cards : Vector CardEntry 16
  relays : Vector RelayEntry 768
  classes : Vector ClassRecord 8
  indications : Vector (Option IndicationEntry) 512
  patterns : Vector PatternRecord 32
  deriving DecidableEq, Repr

/-- The COMMIT in flight: the tag and source held for its answer (section 8.3), and whether it is to be answered: a
request whose promise a RESTART cancelled is not (R155, log 8). -/
structure CommitWork where
  source : Node
  tag : Byte
  answered : Bool
  deriving DecidableEq, Repr

/-- The commit checker (R130). The check's position is the number of records whose tests have been passed. -/
inductive Checker where
  | idle
  | checking (commit : CommitWork) (position : Nat)
  | swapWaiting (commit : CommitWork)
  deriving DecidableEq, Repr

/-- The Table Store (R124). -/
structure TableStore where
  active : Bank
  staging : Bank
  generation : BitVec 16
  checker : Checker
  deriving DecidableEq, Repr

/-! ### Desk Link Unit (R144 to R152) -/

/-- The sources between which the upstream arbiter alternates (R148). -/
inductive UpstreamSource where
  | forward
  | own
  deriving DecidableEq, Repr

/-- A consumed request that has been taken and not yet answered or dropped (R150): who sent it and its tag, its
payload, whether it came as a broadcast, and whether it holds a promise. -/
structure Request where
  source : Node
  tag : Byte
  payload : List Byte
  broadcast : Bool
  promised : Bool
  deriving DecidableEq, Repr

/-- An entry of the Response Queue: a RESPONSE frame ready to send, and whether it is a train's frame (R151). -/
structure ResponseEntry where
  frame : DeskFrame
  train : Bool
  deriving DecidableEq, Repr

/-- The eight link counters (R152). -/
structure LinkCounters where
  upstreamCrc : Counter
  downstreamCrc : Counter
  unroutable : Counter
  wrongKind : Counter
  downwardDrops : Counter
  forwardDrops : Counter
  requestDrops : Counter
  broadcastDrops : Counter
  deriving DecidableEq, Repr

/-- The Desk Link Unit. A transmitter holds the frame it is sending; `none` is a free transmitter. -/
structure DeskLink where
  ownNode : Node
  /-- the downstream range, first and last, when present (R144) -/
  range : Option (Node × Node)
  /-- the Downward Buffer, oldest first (R146) -/
  downward : List DeskFrame
  downstreamTx : Option DeskFrame
  /-- the Forward Buffer, oldest first (R147) -/
  forward : List DeskFrame
  upstreamTx : Option DeskFrame
  /-- the Response Queue, oldest first (R151) -/
  responses : List ResponseEntry
  /-- the count of promises (R151) -/
  promises : Nat
  /-- requests taken and not yet handed on and answered, oldest first (R150) -/
  requests : List Request
  /-- deferred COMMIT answers that wait for room, oldest first (R151) -/
  deferred : List DeskFrame
  counters : LinkCounters
  /-- the arbiter's last-granted source (R148) -/
  lastGranted : UpstreamSource
  deriving DecidableEq, Repr

/-! ### Condition Unit (R157) -/

/-- A record as its owner offers it: subject, value and one time (R96). -/
structure Offer where
  subject : Subject
  value : RecordValue
  time : Time
  deriving DecidableEq, Repr

/-- The three flags of each condition (R157). `waiting` is the model's own (log 4): the CONDITION records that the unit
has offered in the present step and the Report Queue has still to take, oldest first. It is empty between steps. -/
structure ConditionUnit where
  live : Vector Bool 11
  enables : Vector Bool 11
  latched : Vector Bool 11
  waiting : List Offer
  deriving DecidableEq, Repr

/-! ### The evaluators' work (R52, R56, R58, R89) -/

/-- A relay pass or card event with its indication pass, while it may still be in flight (R58, R89): what it changes, as
that stood before it, and how far a frame or a STATUS READ has found it. The records are done in ascending index and then
the image entries, so one number gives the place: relay `r` is done when `r < place`, indication `i` when
`768 + i < place`. The model's own: State's records, image, Report Queue and conditions are already those after the pass
(log 9). -/
structure PassInFlight where
  /-- the card that a relay pass advances; none for a card event, which reads no known flag (R40, R55) -/
  card : Option CardIdx
  relays : Vector RelayRuntime 768
  indications : Vector ImageEntry 512
  report : ReportQueue
  conditions : ConditionUnit
  /-- the choice counter and the Time Base at which the pass offered its records -/
  choices : Nat
  time : TimeBase
  place : Nat
  deriving DecidableEq, Repr

/-- The evaluators' own state beside the runtime records and the Indication Image: the card events sent and not yet
applied, oldest first (R56), the changed set (R52), and the pass that may be in flight (log 9). -/
structure Evaluator where
  events : List CardEvent
  /-- is the oldest of them in flight: was it sent while no work was in flight, and so taken at once (R12, R56)? -/
  inFlight : Bool
  changed : List RelayIdx
  pass : Option PassInFlight
  deriving DecidableEq, Repr

end Sys2Proof.Machine
end

