-- ==== Sys2Proof/Machine/Arith.lean ====
section
/-! DEFINITION. Saturating counters, and the comparison of times modulo 2^32. -/

namespace Sys2Proof.Machine

/-- A 16-bit counter raised by `n`, saturating at 65535 (R6, R8, R20, R152). -/
def raiseBy (c : Counter) (n : Nat) : Counter := BitVec.ofNat 16 (min 65535 (c.toNat + n))

/-- A 16-bit counter raised by 1, saturating at 65535. -/
def raise (c : Counter) : Counter := raiseBy c 1

/-- A count raised by 1, saturating at `bound`. -/
def raiseTo (bound n : Nat) : Nat := min bound (n + 1)

/-- The span from `earlier` to `later`, in ms: the difference of the counts modulo 2^32 (section 5.3 of the scope). -/
def span (earlier later : Time) : Nat := (later - earlier).toNat

/-- Has the time `due` been reached when the counter reads `now`? Every span the part measures is far below 2^31 ms
(R163), so a time whose difference from `now` is below 2^31 lies at or before `now`. -/
def reached (now due : Time) : Bool := span due now < 2 ^ 31

/-- The later of two times, judged from `present`: the one with the smaller difference from it (R86, R163). -/
def laterOf (present a b : Time) : Time := if span b present < span a present then b else a

end Sys2Proof.Machine
end

