-- ==== Sys2Proof/Machine/PowerOn.lean ====
section
/-! DEFINITION. The value each block's state has after power-on, block by block. -/

namespace Sys2Proof.Machine

/-- R163: the counter 0 and not valid. -/
def TimeBase.powerOn : TimeBase := { counter := 0, valid := false, changes := [] }

/-- R1. -/
def LaneReceiver.powerOn : LaneReceiver :=
  { carrier := false, lastSequence := none, goodFrames := 0, crcErrors := 0, lengthErrors := 0,
    malformed := 0, repeats := 0, missing := 0 }

/-- All eight counters 0 (R20). -/
def CardCounters.zero : CardCounters :=
  { accepted := 0, early := 0, lateExpiries := 0, mismatches := 0, dirtyProving := 0,
    flagDisagreements := 0, queueDrops := 0, stale := 0 }

/-- R19. -/
def CardContext.powerOn : CardContext :=
  { state := .off, window := none, earlyRun := 0, readmissionRun := 0, errorMap := 0, proving := .ok,
    cleanRun := 0, counters := .zero }

/-- R12. -/
def Engine.powerOn : Engine := { state := .idle, swapWaiting := false }

/-- R15: every value 0 and every known flag unknown. -/
def InputImage.powerOn : InputImage :=
  { values := Vector.replicate 16 0, known := Vector.replicate 16 0 }

/-- The reset values of R41, with the given status time. -/
def RelayRuntime.reset (statusTime : Time) : RelayRuntime :=
  { contact := .unproven .newEntry, overlay := .none, candidate := none, candidateLength := 0,
    candidateTime := 0, transitLength := 0, priorSteady := none, runLength := 0, flickerLevel := 0,
    flashCount := 0, status := .unproven, statusTime := statusTime }

/-- No event waits, the changed set is empty, and no pass is in flight. -/
def Evaluator.powerOn : Evaluator := { events := [], inFlight := false, changed := [], pass := none }

/-- R91. -/
def ImageEntry.powerOn : ImageEntry := { defined := false, code := none, changeTime := 0 }

/-- The MARKER RESTARTED record (R108, R109). -/
def markerRestarted (time : Time) (valid : Bool) : ChangeRecord :=
  { subject := .restarted, value := .restarted, firstTime := time, lastTime := time, count := 1,
    timeValid := valid }

/-- The Report Queue after a reset taken at the given time (R97, R108, R109). -/
def ReportQueue.afterReset (time : Time) (valid : Bool) : ReportQueue :=
  { records := [markerRestarted time valid], resyncNeeded := false, refused := 0, high := false,
    frameNumber := 0 }

/-- R112. -/
def ImageReader.powerOn : ImageReader :=
  { enable := true, interval := 100, nextExpiry := some 100, walker := 0, regular := .none,
    urgent := none, train := .none }

/-- The empty Card record (R125). -/
def CardEntry.empty : CardEntry :=
  { enable := false, expectedCode := 0, windowOpen := 0, windowClose := 0, interval := .off,
    pattern0 := 0, pattern1 := 0, mask := 0, mode := .latched, clearOnLoss := false }

/-- A Class record that is not loaded (R125). -/
def ClassRecord.notLoaded : ClassRecord :=
  { loaded := false, weight := 0, decay := 0, upper := 0, lower := 0 }

/-- A Pattern record that is not loaded (R78, R125). -/
def PatternRecord.notLoaded : PatternRecord := { loaded := false, codes := Vector.replicate 81 0 }

/-- The empty bank (R125). -/
def Bank.empty : Bank :=
  { cards := Vector.replicate 16 .empty, relays := Vector.replicate 768 .none,
    classes := Vector.replicate 8 .notLoaded, indications := Vector.replicate 512 none,
    patterns := Vector.replicate 32 .notLoaded }

/-- R124. -/
def TableStore.powerOn : TableStore :=
  { active := .empty, staging := .empty, generation := 0, checker := .idle }

/-- The own node the straps give: 0 to 62 as read, and 62 for a value of 63 (R144). -/
def nodeOfStraps (straps : BitVec 6) : Node :=
  if straps = 63 then 62 else ⟨straps.toNat, straps.isLt⟩

/-- All eight link counters 0 (R152). -/
def LinkCounters.zero : LinkCounters :=
  { upstreamCrc := 0, downstreamCrc := 0, unroutable := 0, wrongKind := 0, downwardDrops := 0,
    forwardDrops := 0, requestDrops := 0, broadcastDrops := 0 }

/-- R144, R146, R147, R148, R151, R152. -/
def DeskLink.powerOn (straps : BitVec 6) : DeskLink :=
  { ownNode := nodeOfStraps straps, range := none, downward := [], downstreamTx := none, forward := [],
    upstreamTx := none, responses := [], promises := 0, requests := [], deferred := [],
    counters := .zero, lastGranted := .own }

/-- R157: TIME_INVALID (condition 8) live, the others not; nothing enabled or latched. -/
def ConditionUnit.powerOn : ConditionUnit :=
  { live := (Vector.replicate 11 false).set 8 true, enables := Vector.replicate 11 false,
    latched := Vector.replicate 11 false, waiting := [] }

end Sys2Proof.Machine
end

