-- ==== Sys2Proof/Machine/State.lean ====
section
/-! DEFINITION. The machine's state: every block's state as one structure of plain data, the reasons a step can stop, and the
machine right after reset. -/

namespace Sys2Proof.Machine

/-- A fault. No command of this part ends in a fault: every row of the table has an effect the spec gives, and a step
whose condition does not hold changes nothing (log 1). The type has no constructor: to raise one is impossible (safe). -/
inductive Fault
  deriving DecidableEq, Repr

/-- A refusal. -/
inductive Refusal where
  /-- Raised by `exec` alone, for a command that has no meaning yet. No arm raises it now. Safe: the run stops. -/
  | notModelled (mnemonic : String)
  deriving DecidableEq, Repr

/-- The state of the part, block by block, and the queue of commands that wait. -/
structure State where
  /-- Time Base -/
  time : TimeBase
  /-- Lane Receivers 0 to 15 -/
  lanes : Vector LaneReceiver 16
  /-- for each card, the events its lane has sent and the Card Supervisor has not yet taken, oldest first -/
  inbox : Vector (List LaneEvent) 16
  /-- Card Supervisor: the supervision context of each card -/
  cards : Vector CardContext 16
  /-- Card Frame Queue, oldest first -/
  frameQueue : List QueueEntry
  /-- Conversion Engine -/
  engine : Engine
  /-- Input Image -/
  input : InputImage
  /-- Relay Evaluator: the runtime records -/
  relays : Vector RelayRuntime 768
  /-- Relay Evaluator: waiting events and the changed set -/
  evaluator : Evaluator
  /-- Indication Image -/
  indications : Vector ImageEntry 512
  /-- Report Queue -/
  report : ReportQueue
  /-- Image Reader -/
  reader : ImageReader
  /-- Table Store -/
  tables : TableStore
  /-- Desk Link Unit -/
  link : DeskLink
  /-- Condition Unit -/
  conditions : ConditionUnit
  /-- the model's own (logs 4 and 9): how many free choices, of offer order (R100) and of a pass's place (R58, R89), have
  been made -/
  choices : Nat
  /-- the model's own: the commands that wait, first in, first out -/
  pending : List Instr
  deriving DecidableEq, Repr

/-- The part right after power-on with the given straps, with no command waiting. -/
def State.powerOn (straps : BitVec 6) : State :=
  { time := .powerOn
    lanes := Vector.replicate 16 .powerOn
    inbox := Vector.replicate 16 []
    cards := Vector.replicate 16 .powerOn
    frameQueue := []
    engine := .powerOn
    input := .powerOn
    relays := Vector.replicate 768 (.reset 0)
    evaluator := .powerOn
    indications := Vector.replicate 512 .powerOn
    report := .afterReset 0 false
    reader := .powerOn
    tables := .powerOn
    link := .powerOn straps
    conditions := .powerOn
    choices := 0
    pending := [] }

/-- The machine right after reset: power-on with all straps low (log 2 names the straps). -/
def State.reset : State := State.powerOn 0

end Sys2Proof.Machine
end

