-- ==== Sys2Proof/Machine/Update.lean ====
section
/-! DEFINITION. The updates of State: one block's state replaced, everything else kept. Every meaning changes State through
these; Sys2Proof/Laws/State.lean says of each update what each field is after it. -/

namespace Sys2Proof.Machine

/-- `time` replaced. -/
def State.setTime (s : State) (v : TimeBase) : State := { s with time := v }

/-- `lanes` replaced. -/
def State.setLanes (s : State) (v : Vector LaneReceiver 16) : State := { s with lanes := v }

/-- `inbox` replaced. -/
def State.setInbox (s : State) (v : Vector (List LaneEvent) 16) : State := { s with inbox := v }

/-- `cards` replaced. -/
def State.setCards (s : State) (v : Vector CardContext 16) : State := { s with cards := v }

/-- `frameQueue` replaced. -/
def State.setFrameQueue (s : State) (v : List QueueEntry) : State := { s with frameQueue := v }

/-- `engine` replaced. -/
def State.setEngine (s : State) (v : Engine) : State := { s with engine := v }

/-- `input` replaced. -/
def State.setInput (s : State) (v : InputImage) : State := { s with input := v }

/-- `relays` replaced. -/
def State.setRelays (s : State) (v : Vector RelayRuntime 768) : State := { s with relays := v }

/-- `evaluator` replaced. -/
def State.setEvaluator (s : State) (v : Evaluator) : State := { s with evaluator := v }

/-- `indications` replaced. -/
def State.setIndications (s : State) (v : Vector ImageEntry 512) : State := { s with indications := v }

/-- `report` replaced. -/
def State.setReport (s : State) (v : ReportQueue) : State := { s with report := v }

/-- `reader` replaced. -/
def State.setReader (s : State) (v : ImageReader) : State := { s with reader := v }

/-- `tables` replaced. -/
def State.setTables (s : State) (v : TableStore) : State := { s with tables := v }

/-- `link` replaced. -/
def State.setLink (s : State) (v : DeskLink) : State := { s with link := v }

/-- `conditions` replaced. -/
def State.setConditions (s : State) (v : ConditionUnit) : State := { s with conditions := v }

/-- `choices` replaced. -/
def State.setChoices (s : State) (v : Nat) : State := { s with choices := v }

/-- `pending` replaced. -/
def State.setPending (s : State) (v : List Instr) : State := { s with pending := v }

end Sys2Proof.Machine
end

