-- ==== Sys2Proof/Machine/Flags.lean ====
section
/-! DEFINITION. The Report Queue's taking of offers (R98 to R102) and the Condition Unit's flags (R157, R158): the sources of the
level conditions, the latch, and the order in which one step's offers are taken. -/

namespace Sys2Proof.Machine

/-! ### The Report Queue takes an offer -/

/-- What became of an offer. -/
inductive OfferTaken where
  | coalesced
  | appended
  | refused
  deriving DecidableEq, Repr

/-- A waiting record with an offer of the same subject coalesced into it (R98, R99). -/
def coalesce (valid : Bool) (o : Offer) (r : ChangeRecord) : ChangeRecord :=
  { r with value := o.value, lastTime := o.time, count := raiseTo 255 r.count, timeValid := r.timeValid && valid }

/-- A new record for an offer (R99). -/
def newRecord (valid : Bool) (o : Offer) : ChangeRecord :=
  { subject := o.subject, value := o.value, firstTime := o.time, lastTime := o.time, count := 1, timeValid := valid }

/-- The capacity of the Report Queue (R97). -/
def reportCapacity : Nat := 256

/-- The Report Queue takes an offer while the Time Base is valid or not (R98, R99, R101, R102). -/
def takeOffer (valid : Bool) (o : Offer) (q : ReportQueue) : ReportQueue × OfferTaken :=
  if q.records.any (fun r => r.subject = o.subject) then
    ({ q with records := q.records.map fun r => if r.subject = o.subject then coalesce valid o r else r }, .coalesced)
  else if q.records.length < reportCapacity then
    ({ q with records := q.records ++ [newRecord valid o], high := q.high || q.records.length + 1 = 193 }, .appended)
  else
    ({ q with refused := raise q.refused, resyncNeeded := true }, .refused)

/-! ### The conditions -/

/-- The numbers of the conditions (R157). -/
def cCardDown : ConditionIdx := 0
def cProvingFail : ConditionIdx := 1
def cRelayFault : ConditionIdx := 2
def cReportHigh : ConditionIdx := 3
def cReportOverflow : ConditionIdx := 4
def cForwardOverflow : ConditionIdx := 5
def cQueueDrop : ConditionIdx := 6
def cLinkError : ConditionIdx := 7
def cTimeInvalid : ConditionIdx := 8
def cCommitDone : ConditionIdx := 9
def cCommitRefused : ConditionIdx := 10

/-- The three fault classes of a relay (R54). -/
inductive FaultClass where
  | contradictory
  | flickering
  | normal
  deriving DecidableEq, Repr

/-- The fault class a status gives (R54). -/
def faultClass : Status → FaultClass
  | .contradictory => .contradictory
  | .flickering => .flickering
  | _ => .normal

/-- The number of cards enabled in the Active bank and not IN_SERVICE (R162). -/
def State.cardsDown (s : State) : Nat :=
  (List.finRange 16).countP fun c => (s.tables.active.cards[c]).enable && (s.cards[c]).state != .inService

/-- The number of cards whose proving status is FAIL (R162). -/
def State.cardsFailing (s : State) : Nat := s.cards.toList.countP fun c => c.proving = .fail

/-- The number of relays whose fault class is not NORMAL (R162). -/
def State.relaysAtFault (s : State) : Nat := s.relays.toList.countP fun r => faultClass r.status != .normal

/-- The source of each condition's live value, as it stands between events: an event condition is live at its event
alone, so its source reads false (R157). -/
def State.source (s : State) (n : ConditionIdx) : Bool :=
  if n = cCardDown then 0 < s.cardsDown
  else if n = cProvingFail then 0 < s.cardsFailing
  else if n = cRelayFault then 0 < s.relaysAtFault
  else if n = cReportHigh then s.report.high
  else if n = cTimeInvalid then !s.time.valid
  else false

/-- The ALARM output: asserted while any latched flag is set (R161). -/
def State.alarm (s : State) : Bool := s.conditions.latched.toList.any id

/-- The live value of one condition set. -/
def State.setLive (s : State) (n : ConditionIdx) (b : Bool) : State :=
  s.setConditions { s.conditions with live := s.conditions.live.set n b }

/-- The latched flag of one condition set. -/
def State.setLatched (s : State) (n : ConditionIdx) (b : Bool) : State :=
  s.setConditions { s.conditions with latched := s.conditions.latched.set n b }

/-- The CONDITION record a latch offers (R158). -/
def State.conditionOffer (s : State) (n : ConditionIdx) : Offer :=
  { subject := .condition n, value := .condition n, time := s.time.counter }

/-- Does a rise of the condition latch it: is it enabled and not latched (R158)? -/
def State.canLatch (s : State) (n : ConditionIdx) : Bool := s.conditions.enables[n] && !s.conditions.latched[n]

/-- The CONDITION records that the Condition Unit has offered and the queue has still to take. -/
def State.setWaiting (s : State) (os : List Offer) : State := s.setConditions { s.conditions with waiting := os }

/-- A condition latches: its latched flag is set and its CONDITION record offered (R158). The offer waits until the
queue takes it, within the same step (R100, log 4). -/
def latch (n : ConditionIdx) (s : State) : State :=
  (s.setLatched n true).setWaiting (s.conditions.waiting ++ [s.conditionOffer n])

/-- The live value of a condition rises, or its event happens (R158). -/
def rise (n : ConditionIdx) (s : State) : State := if s.canLatch n then latch n s else s

/-- Several rises, in the order of the list. -/
def riseAll (ns : List ConditionIdx) (s : State) : State := ns.foldl (fun s n => rise n s) s

/-- The Report Queue takes one offer: REPORT_HIGH becomes live at the append that brings the count to 193 (R102), and a
refusal is a REPORT_OVERFLOW event (R101). -/
def queueTakes (o : Offer) (s : State) : State :=
  let taken := takeOffer s.time.valid o s.report
  let s' := s.setReport taken.1
  match taken.2 with
  | .coalesced => s'
  | .appended => if taken.1.high && !s.report.high then rise cReportHigh (s'.setLive cReportHigh true) else s'
  | .refused => rise cReportOverflow s'

/-- The queue takes the oldest CONDITION record that waits. -/
def takeWaiting (s : State) : State :=
  match s.conditions.waiting with
  | o :: rest => queueTakes o (s.setWaiting rest)
  | [] => s

/-- The queue takes CONDITION records that wait, one after another, up to the given number. -/
def takeSome : Nat → State → State
  | 0, s => s
  | n + 1, s => takeSome n (takeWaiting s)

/-- A place where the queue may take CONDITION records that wait: a free choice decides how many. Those that the taking
itself brings, for REPORT_HIGH and REPORT_OVERFLOW, may be among them (R100, log 4). -/
def takeFreely (s : State) : State :=
  if s.conditions.waiting.isEmpty then s
  else takeSome (Config.conditionsBefore s.choices) (s.setChoices (s.choices + 1))

/-- A block's offer reaches the queue, which may take CONDITION records that wait before it (R100, log 4). -/
def offer (o : Offer) (s : State) : State := queueTakes o (takeFreely s)

/-- Several offers of one block, in the order the block makes them. -/
def offerAll (os : List Offer) (s : State) : State := os.foldl (fun s o => offer o s) s

/-- The end of a step's offers: the queue takes every CONDITION record that waits. Taking them can latch REPORT_HIGH and
REPORT_OVERFLOW, each once, so two more may come to wait meanwhile. Each offer is taken in the step that makes it, so no
removal comes between a refusal and the CONDITION record of REPORT_OVERFLOW that it raises, and the full queue refuses
that record too; R101 allows the removal there (DESIGN CHOICE, log 4). -/
def settle (s : State) : State := takeSome (s.conditions.waiting.length + 2) s

/-- The live values of the level conditions `ns` made to follow their sources. -/
def followLive (ns : List ConditionIdx) (s : State) : State :=
  s.setConditions { s.conditions with live := ns.foldl (fun v (n : ConditionIdx) => v.set n (s.source n)) s.conditions.live }

/-- Results made known within a step that goes on: the level conditions `levels` follow their sources; the conditions in
`events` have their event and the levels that become live rise; the block offers `records` (R100, R158). -/
def makeKnown (records : List Offer) (events levels : List ConditionIdx) (s : State) : State :=
  let rises := events ++ levels.filter fun n => s.source n && !s.conditions.live[n]
  offerAll records (riseAll rises (followLive levels s))

/-- The last results of a step made known, and the step's offers all taken. -/
def announce (records : List Offer) (events levels : List ConditionIdx) (s : State) : State :=
  settle (makeKnown records events levels s)

end Sys2Proof.Machine
end

