-- ==== Sys2Proof/Machine/Ops.lean ====
section
/-! DEFINITION. The named operations that several meanings share: writing a card's context with its known flags, the
results of a card's change, a card event's entry into the Relay Evaluator, and the answering of requests. -/

namespace Sys2Proof.Machine

/-- What a meaning answers. -/
abbrev Result := Host.Outcome State Fault Refusal

/-- Is a commit swap in progress? While one is, card events and requests wait for its completion (R16, R37, R138). -/
def State.swapping (s : State) : Bool :=
  match s.engine.state with
  | .swapping _ => true
  | _ => false

/-! ### Cards -/

/-- The known flags of a card: set where the card is IN_SERVICE and the bit of its proving error map is clear (R33). -/
def knownFlags (c : CardContext) : Inputs := if c.state = .inService then ~~~c.errorMap else 0

/-- A card's context written, its known flags kept in step with it (R15, R33). -/
def putCard (n : CardIdx) (c : CardContext) (s : State) : State :=
  (s.setCards (s.cards.set n c)).setInput { s.input with known := s.input.known.set n (knownFlags c) }

/-- The CARD record that a change of a card's state, fault reason or proving status offers (R35). -/
def cardOffers (n : CardIdx) (time : Time) (before after : CardContext) : List Offer :=
  if before.state = after.state ∧ before.proving = after.proving then []
  else [{ subject := .card n, value := .card after.state after.proving, time := time }]

/-- The event a card's change sends to the Relay Evaluator: a card-out event when the card leaves IN_SERVICE (R33); a
known-inputs event when the map of a card that stays IN_SERVICE has changed (R34). -/
def cardEvents (n : CardIdx) (time : Time) (before after : CardContext) : List CardEvent :=
  if before.state ≠ .inService then []
  else if after.state ≠ .inService then [.cardOut n time]
  else if before.errorMap = after.errorMap then []
  else [.knownInputs n (after.errorMap &&& ~~~before.errorMap) (before.errorMap &&& ~~~after.errorMap) time]

/-- Is no work in flight at the evaluators: no conversion with a relay pass, no swap and no card event (R56)? The row of
a card event holds its indication pass too (spec/95), so neither is in flight once it has been taken (DEDUCED, log 31). -/
def State.evaluatorFree (s : State) : Bool :=
  match s.engine.state with
  | .converting _ true => false
  | .swapping _ => false
  | _ => s.evaluator.events.isEmpty

/-- Events sent to the Relay Evaluator, after those that wait there. One sent while no work is in flight is taken at once,
and is in flight from then on: no frame finds the pass of an earlier event in flight any more (R56, log 31). -/
def sendEvents (es : List CardEvent) (s : State) : State :=
  let takenAtOnce := s.evaluatorFree && !es.isEmpty
  s.setEvaluator { s.evaluator with
    events := s.evaluator.events ++ es
    inFlight := s.evaluator.inFlight || takenAtOnce
    pass := if takenAtOnce then none else s.evaluator.pass }

/-- A pass that may be in flight is found at a place, or where it was found before if that is further. -/
def foundAt (place : Nat) (s : State) : State :=
  match s.evaluator.pass with
  | some p => s.setEvaluator { s.evaluator with pass := some { p with place := max p.place place } }
  | none => s

/-- A relay pass that may be in flight is found past its relays where a known flag of its card changes (R40, log 9). -/
def pastRelays (changes : Bool) (s : State) : State := if changes then foundAt 768 s else s

/-- The place of a pass that has done its 768 relays and its 512 indications. -/
def passEnd : Nat := 768 + 512

/-- Does a relay pass of card `n` that may be in flight stand to read known flags that change (R40)? -/
def State.passReads (s : State) (n : CardIdx) (before after : CardContext) : Bool :=
  match s.evaluator.pass with
  | some p => p.card = some n && knownFlags before != knownFlags after
  | none => false

/-- The results of a change of card `n` from the context `before` to the one State now holds, at the given time: a relay
pass of the card that may be in flight is past its relays when the known flags change, so each relay has read them as they
stood when it was advanced (R40, log 9); the card's event to the Relay Evaluator, its CARD record, the conditions in
`events`, and the levels CARD_DOWN and PROVING_FAIL (R33 to R35). -/
def announceCard (n : CardIdx) (time : Time) (before : CardContext) (events : List ConditionIdx) (s : State) : State :=
  let after := s.cards[n]
  announce (cardOffers n time before after) events [cCardDown, cProvingFail]
    (sendEvents (cardEvents n time before after) (pastRelays (s.passReads n before after) s))

/-- A card's context replaced at one event, with all its results. -/
def changeCard (n : CardIdx) (time : Time) (after : CardContext) (s : State) : State :=
  announceCard n time s.cards[n] [] (putCard n after s)

/-- Proving state cleared: map clear, status OK, clean run 0 (R26, R36 to R38). -/
def CardContext.clearProving (c : CardContext) : CardContext :=
  { c with errorMap := 0, proving := .ok, cleanRun := 0 }

/-- The eight card counters set to 0 (R20). -/
def CardContext.clearCounters (c : CardContext) : CardContext := { c with counters := .zero }

/-- A card without window or run in the given state: reference time absent, close timer stopped, early run and
readmission run 0. -/
def CardContext.stopped (c : CardContext) (state : CardState) : CardContext :=
  { c with state := state, window := none, earlyRun := 0, readmissionRun := 0 }

/-- The state in which an enabled card begins again: WAITING if its carrier flag is set, ABSENT if it is clear (R36 to
R38). -/
def startState (carrier : Bool) : CardState := if carrier then .waiting else .absent

/-! ### Answers and the Response Queue (R142, R150, R151) -/

/-- Entries and promises together never number more than this (R151). -/
def responseCapacity : Nat := 4

/-- Is there a free place in the Response Queue (R150, R151)? -/
def State.hasRoom (s : State) : Bool := s.link.responses.length + s.link.promises < responseCapacity

/-- The eight statuses of an answer (R150). -/
inductive AnswerStatus where
  | ok
  | busy
  | range
  | field
  | length
  | unknown
  | refused
  | aborted
  deriving DecidableEq, Repr

/-- The status byte (R167). -/
def AnswerStatus.byte : AnswerStatus → Byte
  | .ok => 0
  | .busy => 1
  | .range => 2
  | .field => 3
  | .length => 4
  | .unknown => 5
  | .refused => 6
  | .aborted => 7

/-- A RESPONSE frame to a request of the given source and tag: request code echoed, status, body (R142, R167). -/
def responseFrame (s : State) (source : Node) (tag : Byte) (code : Byte) (status : AnswerStatus) (body : List Byte) :
    DeskFrame :=
  { destination := nodeByte source, source := nodeByte s.link.ownNode, kind := 2, tag := tag,
    payload := code :: status.byte :: body }

/-- An entry placed at the tail of the Response Queue. -/
def placeEntry (e : ResponseEntry) (s : State) : State :=
  s.setLink { s.link with responses := s.link.responses ++ [e] }

/-- A promise released (R151). -/
def releasePromise (s : State) : State := s.setLink { s.link with promises := s.link.promises - 1 }

/-- An answer given when its request is handed on: the request's promise becomes the entry at once (R151). A request
without a promise (a broadcast, or one whose promise a RESTART cancelled) is not answered. -/
def answerEntry (q : Request) (e : ResponseEntry) (s : State) : State :=
  if q.promised then placeEntry e (releasePromise s) else s

/-- The request code of a request; 00h where the payload is empty (R167). -/
def Request.code (q : Request) : Byte := byteAt q.payload 0

/-- A request answered with a status and a body. -/
def answer (q : Request) (status : AnswerStatus) (body : List Byte) (s : State) : State :=
  answerEntry q ⟨responseFrame s q.source q.tag q.code status body, false⟩ s

/-- The request code of COMMIT. -/
def commitCode : Byte := 0x23

/-- The deferred answer of a COMMIT joins the answers that wait for room, unless the COMMIT is not to be answered
(R134, R136, R138, R151). -/
def deferAnswer (w : CommitWork) (status : AnswerStatus) (body : List Byte) (s : State) : State :=
  if w.answered then
    s.setLink { s.link with
      deferred := s.link.deferred ++ [responseFrame s w.source w.tag commitCode status body] }
  else s

end Sys2Proof.Machine
end

