-- ==== Sys2Proof/Machine/Requests.lean ====
section
/-! DEFINITION. How consumed requests are taken, checked by the Desk Link Unit, and handed to their owners (R150, R151). -/

namespace Sys2Proof.Machine

/-- The request codes (R167). -/
def identifyCode : Byte := 0x01
def setChainCode : Byte := 0x02
def restartCode : Byte := 0x03
def abortCode : Byte := 0x04
def cardControlCode : Byte := 0x10
def tableWriteCode : Byte := 0x20
def tableReadCode : Byte := 0x21
def copyCode : Byte := 0x22
def snapshotCode : Byte := 0x30
def refreshControlCode : Byte := 0x31
def timeSetCode : Byte := 0x40
def statusReadCode : Byte := 0x41
def conditionEnableCode : Byte := 0x42
def conditionAckCode : Byte := 0x43

/-- The actions of CARD CONTROL (R167). -/
def readmitAction : Byte := 1
def clearProvingAction : Byte := 2
def clearCountersAction : Byte := 3

/-- The payload length a request code requires (R167). TABLE WRITE requires its fixed part at least; its owner checks
the rest (R126, R150). -/
inductive LengthRule where
  | exactly (n : Nat)
  | atLeast (n : Nat)
  deriving DecidableEq, Repr

/-- The table of requests: the length rule of each known code, in the order of R167. -/
def requestTable : List (Byte × LengthRule) :=
  [(identifyCode, .exactly 1), (setChainCode, .exactly 3), (restartCode, .exactly 1), (abortCode, .exactly 1),
   (cardControlCode, .exactly 3), (tableWriteCode, .atLeast 5), (tableReadCode, .exactly 6), (copyCode, .exactly 1),
   (commitCode, .exactly 1), (snapshotCode, .exactly 7), (refreshControlCode, .exactly 4), (timeSetCode, .exactly 5),
   (statusReadCode, .exactly 1), (conditionEnableCode, .exactly 3), (conditionAckCode, .exactly 3)]

/-- Does a payload length meet the rule? -/
def LengthRule.admits (n : Nat) : LengthRule → Bool
  | .exactly m => n = m
  | .atLeast m => m ≤ n

/-- What the Desk Link Unit makes of the oldest request. -/
inductive Handing where
  /-- a broadcast that is not a TIME SET of the right length: dropped and counted (R150) -/
  | dropBroadcast
  /-- answered by the Desk Link Unit, or by CARD CONTROL's owner where no row of the table takes the action -/
  | answered (status : AnswerStatus)
  /-- handed to its owner -/
  | toOwner
  deriving DecidableEq, Repr

/-- Is the action code of a CARD CONTROL one of the three? -/
def knownAction (q : Request) : Bool :=
  byteAt q.payload 2 = readmitAction || byteAt q.payload 2 = clearProvingAction || byteAt q.payload 2 = clearCountersAction

/-- The checks of R150 on one request. A CARD CONTROL whose action is none of the three is answered FIELD (R36); no
row of the table takes it, so the answer is given here (log 7). -/
def handing (q : Request) : Handing :=
  if q.broadcast then
    if q.code = timeSetCode ∧ q.payload.length = 5 then .toOwner else .dropBroadcast
  else if q.payload.isEmpty then .answered .unknown
  else
    match requestTable.lookup q.code with
    | none => .answered .unknown
    | some rule =>
      if !rule.admits q.payload.length then .answered .length
      else if q.code = cardControlCode ∧ !knownAction q then .answered .field
      else .toOwner

/-- One link counter event: a broadcast request dropped (R152). -/
def countBroadcastDrop (s : State) : State :=
  s.setLink { s.link with counters := { s.link.counters with broadcastDrops := raise s.link.counters.broadcastDrops } }

/-- The requests `qs`, oldest first, handed on until one is its owner's: the Desk Link Unit answers or drops those that
come before it (R150), all in the step that lets them go on. DESIGN CHOICE (log 34): these answers stand before a deferred
answer or a train frame that becomes ready in the same step. -/
def handOnAll : List Request → State → State
  | [], s => s.setLink { s.link with requests := [] }
  | q :: rest, s =>
    match handing q with
    | .toOwner => s.setLink { s.link with requests := q :: rest }
    | .dropBroadcast => handOnAll rest (countBroadcastDrop s)
    | .answered status => handOnAll rest (answer q status [] s)

/-- The waiting requests handed on, in the order they arrived, unless a swap is in progress (R138, R150). -/
def handOn (s : State) : State := if s.swapping then s else handOnAll s.link.requests s

/-- A consumed request joins the requests that have been taken, and is handed on when its turn has come. -/
def takeRequest (q : Request) (s : State) : State :=
  handOn (s.setLink { s.link with requests := s.link.requests ++ [q] })

/-- The request an owner takes next, when it is one the owner's row is for and no swap is in progress. -/
def State.handed (s : State) (mine : Request → Bool) : Option Request :=
  if s.swapping then none
  else
    match s.link.requests with
    | q :: _ => if handing q = .toOwner && mine q then some q else none
    | [] => none

/-- The oldest request leaves the waiting requests. -/
def dropRequest (s : State) : State := s.setLink { s.link with requests := s.link.requests.tail }

/-- An owner takes its request: the request leaves the waiting requests, the owner acts on it, and the requests behind
it are handed on. Where no such request waits, nothing happens (log 1). -/
def serve (mine : Request → Bool) (act : Request → State → State) (s : State) : State :=
  match s.handed mine with
  | some q => handOn (act q (dropRequest s))
  | none => s

/-- Does a request carry this code? -/
def hasCode (code : Byte) (q : Request) : Bool := q.code = code

/-- Is a request a CARD CONTROL with this action? -/
def hasAction (action : Byte) (q : Request) : Bool := q.code = cardControlCode && byteAt q.payload 2 = action

end Sys2Proof.Machine
end

