-- ==== Sys2Proof/Machine/CardControl.lean ====
section
/-! DEFINITION. The CARD CONTROL request, one row for each action (R36). -/

namespace Sys2Proof.Machine

/-- A CARD CONTROL as the Card Supervisor takes it: a card number above 15 is answered FIELD and changes nothing; else the
action is done and answered OK, in every card state (R36). -/
def actCardControl (action : CardIdx → State → State) (q : Request) (s : State) : State :=
  if h : cardNumber q < 16 then answer q .ok [] (action ⟨cardNumber q, h⟩ s) else answer q .field [] s
where
  /-- The card number of the request. -/
  cardNumber (q : Request) : Nat := (byteAt q.payload 1).toNat

/-- A FAULTY card readmitted: WAITING or ABSENT by its carrier flag; its proving state and counters are kept (R36). -/
def readmitted (carrier : Bool) (c : CardContext) : CardContext :=
  match c.state with
  | .faulty _ => c.stopped (startState carrier)
  | _ => c

/-- READMIT on one card. -/
def readmitCard (n : CardIdx) (s : State) : State :=
  changeCard n s.time.counter (readmitted s.lanes[n].carrier s.cards[n]) s

/-- CLEAR_PROVING on one card. -/
def clearProvingCard (n : CardIdx) (s : State) : State := changeCard n s.time.counter s.cards[n].clearProving s

/-- CLEAR_COUNTERS on one card. -/
def clearCountersCard (n : CardIdx) (s : State) : State := changeCard n s.time.counter s.cards[n].clearCounters s

/-- READMIT (R36). -/
def execReadmit (s : State) : Result := .next (serve (hasAction readmitAction) (actCardControl readmitCard) s)

/-- CLEAR_PROVING (R36). -/
def execClearProving (s : State) : Result :=
  .next (serve (hasAction clearProvingAction) (actCardControl clearProvingCard) s)

/-- CLEAR_COUNTERS (R36). -/
def execClearCounters (s : State) : Result :=
  .next (serve (hasAction clearCountersAction) (actCardControl clearCountersCard) s)

end Sys2Proof.Machine
end

