-- ==== Sys2Proof/Machine/Clock.lean ====
section
/-! DEFINITION. The Time Base: its millisecond (R163) and TIME SET (R22, R164). -/

namespace Sys2Proof.Machine

/-- The Time Base after a millisecond (R163). The changes before the latest millisecond are at least a millisecond old and
are no longer kept (log 3). -/
def TimeBase.tick (t : TimeBase) : TimeBase :=
  { t with
    counter := t.counter + 1
    changes := { before := t.counter, shift := 0, millisecond := true } :: t.changes.takeWhile fun c => !c.millisecond }

/-- The Time Base loaded with a value and valid (R164). -/
def TimeBase.load (value : Time) (t : TimeBase) : TimeBase :=
  { counter := value, valid := true
    changes := { before := t.counter, shift := value - t.counter, millisecond := false } :: t.changes }

/-- TIME_BASE_MILLISECOND: the counter counts up by 1, wrapping, whether or not it is valid (R163). -/
def execTimeBaseMillisecond (s : State) : Result :=
  .next (s.setTime s.time.tick)

/-- A card's window moved by a TIME SET (R22, R164). -/
def CardContext.moved (amount : Time) (c : CardContext) : CardContext :=
  { c with
    window := c.window.map fun w =>
      { reference := w.reference + amount, openTime := w.openTime + amount, closeTime := w.closeTime + amount } }

/-- A frame on its way to the Card Supervisor keeps its stamp; its window measure moves (R22, R164). -/
def LaneEvent.moved (amount : Time) : LaneEvent → LaneEvent
  | .frame f => .frame { f with shift := f.shift + amount }
  | e => e

/-- The Time Base loaded with `value` and valid; the card windows and the running refresh timer moved by the same amount
as the counter, and times already stamped not moved (R22, R164). TIME_INVALID follows. -/
def loadTime (value : Time) (s : State) : State :=
  let amount := value - s.time.counter
  let s1 := s.setTime (s.time.load value)
  let s2 := s1.setCards (Vector.ofFn fun n : CardIdx => s1.cards[n].moved amount)
  let s3 := s2.setInbox (Vector.ofFn fun n : CardIdx => s2.inbox[n].map (LaneEvent.moved amount))
  announce [] [] [cTimeInvalid] (s3.setReader { s3.reader with nextExpiry := s3.reader.nextExpiry.map (· + amount) })

/-- The value a TIME SET carries. -/
def timeOf (q : Request) : Time :=
  ofBe32 (byteAt q.payload 1) (byteAt q.payload 2) (byteAt q.payload 3) (byteAt q.payload 4)

/-- TIME SET as the Time Base takes it; a broadcast holds no promise and is not answered (R150, R164). -/
def actTimeSet (q : Request) (s : State) : State := answer q .ok (be32 (timeOf q)) (loadTime (timeOf q) s)

/-- TIME_SET (R164). -/
def execTimeSet (s : State) : Result := .next (serve (hasCode timeSetCode) actTimeSet s)

end Sys2Proof.Machine
end

