-- ==== Sys2Proof/Machine/Contacts.lean ====
section
/-! DEFINITION. Stages 1 to 3 of the sample pass for one relay: the run length, the raw decode, the candidate and the
contact-state transition (R42 to R51). -/

namespace Sys2Proof.Machine

/-! ### What a Relay entry says -/

/-- The fields an entry of a kind other than NONE has. -/
def RelayEntry.common : RelayEntry → Option RelayCommon
  | .none => Option.none
  | .paired _ _ _ c => some c
  | .frontOnly _ c => some c
  | .backOnly _ c => some c

/-- Is the entry a relay of card `n` (R39)? -/
def RelayEntry.onCard (n : CardIdx) (e : RelayEntry) : Bool :=
  match e.common with
  | some c => c.card = n
  | Option.none => false

/-- The bits of its card that an entry names. -/
def RelayEntry.bits : RelayEntry → List (Fin 64)
  | .none => []
  | .paired f b _ _ => [f, b]
  | .frontOnly f _ => [f]
  | .backOnly b _ => [b]

/-- The inputs (card, bit) that an entry names (R39). -/
def RelayEntry.inputs (e : RelayEntry) : List (CardIdx × Fin 64) :=
  match e.common with
  | some c => e.bits.map fun b => (c.card, b)
  | Option.none => []

/-- The transit limit Tl; only a PAIRED entry has one, and only a PAIRED relay has OPEN samples (R43). -/
def RelayEntry.transitLimit : RelayEntry → Nat
  | .paired _ _ l _ => l
  | _ => 0

/-- The settle count of a candidate: Su for UP, Sd for DOWN, Sc for BOTH, the larger of the two (R43, R45). -/
def RelayEntry.settleCount (e : RelayEntry) (v : CandidateValue) : Nat :=
  match e.common with
  | some c =>
    match v with
    | .up => c.settleUp
    | .down => c.settleDown
    | .both => max c.settleUp c.settleDown
  | Option.none => 0

/-- The flash window of an entry, when it has one. -/
def RelayEntry.flashWindow (e : RelayEntry) : Option FlashWindow := e.common.bind RelayCommon.flash

/-! ### Raw decode (R43) -/

/-- The raw value of one sample of a relay's contacts (R43). `opened` is OPEN, `unknown` is NONE. -/
inductive Raw where
  | up
  | down
  | opened
  | both
  | unknown
  deriving DecidableEq, Repr

/-- The raw value for the 64 values and known flags of the relay's card (R43). Any named input unknown gives NONE. -/
def rawDecode (e : RelayEntry) (values known : Inputs) : Raw :=
  if e.bits.any (fun b => !known.getLsbD b.val) then .unknown
  else
    match e with
    | .none => .unknown
    | .paired f b _ _ =>
      match values.getLsbD f.val, values.getLsbD b.val with
      | true, false => .up
      | false, true => .down
      | false, false => .opened
      | true, true => .both
    | .frontOnly f _ => if values.getLsbD f.val then .up else .down
    | .backOnly b _ => if values.getLsbD b.val then .down else .up

/-! ### Candidates (R45) -/

/-- The candidate value of a direction. -/
def Direction.candidate : Direction → CandidateValue
  | .up => .up
  | .down => .down

/-- The candidate made absent, its length 0 (R45). -/
def RelayRuntime.clearCandidate (r : RelayRuntime) : RelayRuntime := { r with candidate := none, candidateLength := 0 }

/-- A raw value of UP, DOWN or BOTH that differs from the contact state counts: the same candidate grows by 1,
saturating at 255; another begins with length 1 at the sample time (R45). -/
def RelayRuntime.countCandidate (v : CandidateValue) (t : Time) (r : RelayRuntime) : RelayRuntime :=
  if r.candidate = some v then { r with candidateLength := raiseTo 255 r.candidateLength }
  else { r with candidate := some v, candidateLength := 1, candidateTime := t }

/-- Has the candidate reached its settle count (R45)? -/
def RelayRuntime.settled (e : RelayEntry) (v : CandidateValue) (r : RelayRuntime) : Bool :=
  e.settleCount v ≤ r.candidateLength

/-! ### Stage 1 (R44) -/

/-- The run length raised by 1, saturating at 255 (R44). -/
def stage1 (r : RelayRuntime) : RelayRuntime := { r with runLength := raiseTo 255 r.runLength }

/-! ### Stage 3 (R46 to R49, R51) -/

/-- What stage 3 leaves: the record; whether the sample brought an accepted change (R50); and the candidate time that a
change of status takes when an accepted change, a recovery or a settled contradiction came (R53). -/
structure Transition where
  runtime : RelayRuntime
  accepted : Bool
  since : Option Time
  deriving DecidableEq, Repr

/-- A sample that brings no accepted change, recovery or settled contradiction. -/
def Transition.plain (r : RelayRuntime) : Transition := { runtime := r, accepted := false, since := none }

/-- Entry into UNPROVEN by a NONE sample or a card event: candidate cleared, transit length 0, flash count 0, a FLASHING
overlay ended; the flicker level and a FLICKERING overlay are kept (R51, R55, R71). -/
def RelayRuntime.toUnproven (reason : UnprovenReason) (r : RelayRuntime) : RelayRuntime :=
  { r.clearCandidate with
    contact := .unproven reason
    transitLength := 0
    flashCount := 0
    overlay := if r.overlay = .flashing then .none else r.overlay }

/-- CONTRADICTORY with the given reason: candidate cleared, transit length 0 (R46, R47, R49). -/
def RelayRuntime.toContradictory (reason : ContradictionReason) (r : RelayRuntime) : RelayRuntime :=
  { r.clearCandidate with contact := .contradictory reason, transitLength := 0 }

/-- An OPEN sample in TRANSIT or UNPROVEN: the transit length grows, and past Tl the relay is CONTRADICTORY (R47, R49). -/
def RelayRuntime.openCounted (e : RelayEntry) (r : RelayRuntime) : RelayRuntime :=
  if e.transitLimit < r.transitLength + 1 then r.toContradictory .transitTimeout
  else { r.clearCandidate with transitLength := r.transitLength + 1 }

/-- An OPEN sample (R46, R47, R49). -/
def openSample (e : RelayEntry) (r : RelayRuntime) : RelayRuntime :=
  match r.contact with
  | .steady d => { r.clearCandidate with contact := .transit, priorSteady := some d, transitLength := 1 }
  | .transit => r.openCounted e
  | .unproven _ => r.openCounted e
  | .contradictory _ => r.clearCandidate

/-- A BOTH candidate counted; when it settles at Sc the relay is CONTRADICTORY (R46, R47, R49). -/
def bothCounted (e : RelayEntry) (t : Time) (r : RelayRuntime) : Transition :=
  let r' := r.countCandidate .both t
  if r'.settled e .both then
    { runtime := r'.toContradictory .bothClosed, accepted := false, since := some r'.candidateTime }
  else .plain r'

/-- A BOTH sample. In CONTRADICTORY it clears the candidate (R49). -/
def bothSample (e : RelayEntry) (t : Time) (r : RelayRuntime) : Transition :=
  match r.contact with
  | .contradictory _ => .plain r.clearCandidate
  | _ => bothCounted e t r

/-- A relay that becomes steady in direction `d`: prior steady follows, candidate cleared, transit length 0, reason
absent (R42, R45, R48, R49). -/
def RelayRuntime.toSteady (d : Direction) (r : RelayRuntime) : RelayRuntime :=
  { r.clearCandidate with contact := .steady d, priorSteady := some d, transitLength := 0 }

/-- An UP or DOWN candidate counted; when it settles, `settle` gives what happens. -/
def directionCounted (e : RelayEntry) (d : Direction) (t : Time) (r : RelayRuntime)
    (settle : RelayRuntime → Transition) : Transition :=
  let r' := r.countCandidate d.candidate t
  if r'.settled e d.candidate then settle r' else .plain r'

/-- The opposite direction settles from a steady state: an accepted change (R46, R50). -/
def settleChange (d : Direction) (r : RelayRuntime) : Transition :=
  { runtime := r.toSteady d, accepted := true, since := some r.candidateTime }

/-- A transit ends in direction `d`: an accepted change, or a return when `d` is the prior steady state (R48). -/
def settleTransit (d : Direction) (r : RelayRuntime) : Transition :=
  if r.priorSteady = some d then .plain (r.toSteady d) else settleChange d r

/-- A recovery: steady again, and the run length 0 (R49). -/
def settleRecovery (d : Direction) (r : RelayRuntime) : Transition :=
  { runtime := { r.toSteady d with runLength := 0 }, accepted := false, since := some r.candidateTime }

/-- An UP or DOWN sample (R46 to R49). -/
def directionSample (e : RelayEntry) (d : Direction) (t : Time) (r : RelayRuntime) : Transition :=
  match r.contact with
  | .steady s => if s = d then .plain r.clearCandidate else directionCounted e d t r (settleChange d)
  | .transit => directionCounted e d t r (settleTransit d)
  | .unproven _ => directionCounted e d t r (settleRecovery d)
  | .contradictory _ => directionCounted e d t r (settleRecovery d)

/-- Stage 3 for one raw value (R46 to R49, R51). -/
def stage3 (e : RelayEntry) (raw : Raw) (t : Time) (r : RelayRuntime) : Transition :=
  match raw with
  | .up => directionSample e .up t r
  | .down => directionSample e .down t r
  | .opened => .plain (openSample e r)
  | .both => bothSample e t r
  | .unknown => .plain (r.toUnproven .inputUnknown)

end Sys2Proof.Machine
end

