-- ==== Sys2Proof/Machine/Flicker.lean ====
section
/-! DEFINITION. Stages 4 to 7 of the sample pass: the flash test, the flicker weight, decay and thresholds (R50, R59 to
R69), the status of stage 8 (R52, R53), and the whole sample of one relay. -/

namespace Sys2Proof.Machine

/-! ### Stage 4 (R50, R63 to R65) -/

/-- Is a change with run length `l` in the entry's flash window (R63)? -/
def RelayEntry.inWindow (e : RelayEntry) (l : Nat) : Bool :=
  match e.flashWindow with
  | some w => w.fmin ≤ l && l ≤ w.fmax
  | Option.none => false

/-- Has the flash count reached Fconf (R64)? -/
def RelayEntry.confirmed (e : RelayEntry) (count : Nat) : Bool :=
  match e.flashWindow with
  | some w => w.fconf ≤ count
  | Option.none => false

/-- An in-window change: the flash count rises, saturating at 7, and at Fconf an overlay of NONE becomes FLASHING
(R64). -/
def inWindowChange (e : RelayEntry) (r : RelayRuntime) : RelayRuntime :=
  let count := raiseTo 7 r.flashCount
  { r with flashCount := count, overlay := if e.confirmed count && r.overlay = .none then .flashing else r.overlay }

/-- A counted change: flash count 0, FLASHING ended, the weight added with the sum clipped at 255 (R65). -/
def countedChange (c : ClassRecord) (r : RelayRuntime) : RelayRuntime :=
  { r with
    flashCount := 0
    overlay := if r.overlay = .flashing then .none else r.overlay
    flickerLevel := min 255 (r.flickerLevel + c.weight) }

/-- Stage 4 at an accepted change: L is taken, the run length set to 0, then the change is judged (R50, R63). -/
def acceptedChange (e : RelayEntry) (c : ClassRecord) (r : RelayRuntime) : RelayRuntime :=
  let r' := { r with runLength := 0 }
  if e.inWindow r.runLength then inWindowChange e r' else countedChange c r'

/-- Stage 4: nothing at a sample without an accepted change (R59). -/
def stage4 (e : RelayEntry) (c : ClassRecord) (t : Transition) : RelayRuntime :=
  if t.accepted then acceptedChange e c t.runtime else t.runtime

/-! ### Stages 5 to 7 (R66 to R69) -/

/-- Stage 5: a FLASHING overlay whose run has passed Fmax ends, and the flash count becomes 0 (R66). -/
def stage5 (e : RelayEntry) (r : RelayRuntime) : RelayRuntime :=
  match e.flashWindow with
  | some w => if r.overlay = .flashing ∧ w.fmax < r.runLength then { r with overlay := .none, flashCount := 0 } else r
  | none => r

/-- Stage 6: the decay, stopping at 0 (R67). -/
def stage6 (c : ClassRecord) (r : RelayRuntime) : RelayRuntime := { r with flickerLevel := r.flickerLevel - c.decay }

/-- The first test of stage 7: a level above U makes the overlay FLICKERING; the flash count is left (R68). -/
def flickerStart (c : ClassRecord) (r : RelayRuntime) : RelayRuntime :=
  if c.upper < r.flickerLevel then { r with overlay := .flickering } else r

/-- The second test of stage 7: a FLICKERING overlay with the level at or below Lo becomes NONE, the flash count 0
(R69). -/
def flickerEnd (c : ClassRecord) (r : RelayRuntime) : RelayRuntime :=
  if r.overlay = .flickering ∧ r.flickerLevel ≤ c.lower then { r with overlay := .none, flashCount := 0 } else r

/-- Stage 7. In a bank that passed the commit check Lo is below U, so at most one of the two tests acts (R60). -/
def stage7 (c : ClassRecord) (r : RelayRuntime) : RelayRuntime := flickerEnd c (flickerStart c r)

/-! ### Stage 8 (R52, R53) -/

/-- The status a contact state and an overlay give, by the first line of R52 that applies. -/
def deriveStatus (contact : Contact) (overlay : Overlay) : Status :=
  match contact with
  | .unproven _ => .unproven
  | .contradictory _ => .contradictory
  | .transit =>
    match overlay with
    | .flickering => .flickering
    | .flashing => .flashing
    | .none => .transit
  | .steady d =>
    match overlay with
    | .flickering => .flickering
    | .flashing => .flashing
    | .none =>
      match d with
      | .up => .up
      | .down => .down

/-- Stage 8's status: a status that changes takes `time` as its status time; one that does not keeps its own (R52, R53). -/
def stage8 (time : Time) (r : RelayRuntime) : RelayRuntime :=
  let status := deriveStatus r.contact r.overlay
  if status = r.status then r else { r with status := status, statusTime := time }

/-! ### One relay, one sample; one relay, one card event -/

/-- Stages 4 to 7 over what stage 3 left (R59). -/
def stages4to7 (e : RelayEntry) (c : ClassRecord) (t : Transition) : RelayRuntime :=
  stage7 c (stage6 c (stage5 e (stage4 e c t)))

/-- One relay advanced through stages 1 to 8 by one sample (section 3.4). -/
def sampleRelay (e : RelayEntry) (c : ClassRecord) (raw : Raw) (t : Time) (r : RelayRuntime) : RelayRuntime :=
  let tr := stage3 e raw t (stage1 r)
  stage8 (tr.since.getD t) (stages4to7 e c tr)

/-- One relay changed by a card-out or known-inputs event, then stage 8 (R55). -/
def eventRelay (reason : UnprovenReason) (t : Time) (r : RelayRuntime) : RelayRuntime :=
  stage8 t (r.toUnproven reason)

end Sys2Proof.Machine
end

