-- ==== Sys2Proof/Machine/Evaluation.lean ====
section
/-! DEFINITION. The evaluation of one indication from the statuses of its input relays (R81 to R83). -/

namespace Sys2Proof.Machine

/-- Is a status one of the three doubts (R81)? -/
def Status.inDoubt : Status → Bool
  | .unproven => true
  | .contradictory => true
  | .flickering => true
  | _ => false

/-- The term a position gives: 0 for DOWN, 1 for UP, 2 for FLASHING (R83). Step 3 meets no other status. -/
def term : Status → Fin 3
  | .up => 1
  | .flashing => 2
  | _ => 0

/-- The term of position `k`; an absent position gives 0 (R83). -/
def termAt (statuses : List Status) (k : Nat) : Fin 3 :=
  match statuses[k]? with
  | some s => term s
  | none => 0

/-- The pattern index of four terms: t0 + 3·t1 + 9·t2 + 27·t3, at most 80 (R83). -/
def patternIndex (t0 t1 t2 t3 : Fin 3) : Fin 81 :=
  ⟨t0.val + 3 * t1.val + 9 * t2.val + 27 * t3.val, by omega⟩

/-- The pattern index of the input statuses, in the order r0 to r3 (R83). -/
def indexOf (statuses : List Status) : Fin 81 :=
  patternIndex (termAt statuses 0) (termAt statuses 1) (termAt statuses 2) (termAt statuses 3)

/-- The evaluation of a defined indication: its doubt code, its transit policy, or its pattern, the first step that
yields a result (R81 to R83). Under HOLD the result is the stored code; where none is stored, the doubt code (R92). -/
def evaluate (e : IndicationEntry) (p : PatternRecord) (statuses : List Status) (stored : Option Code) : Code :=
  if statuses.any Status.inDoubt then e.doubt
  else if statuses.any (· = .transit) then
    match e.policy with
    | .hold => stored.getD e.doubt
    | .code c => c
  else p.codes[indexOf statuses]

end Sys2Proof.Machine
end

