-- ==== Sys2Proof/Machine/Conversion.lean ====
section
/-! DEFINITION. The Conversion Engine's conversions (R12 to R14), the relay pass (R40, R57), the card events at the Relay
Evaluator (R55, R56), and the indication pass (R80, R85 to R87). -/

namespace Sys2Proof.Machine

/-! ### Relay results -/

/-- The RELAY record of a relay's status (R54). -/
def relayOffer (r : RelayIdx) (x : RelayRuntime) : Offer :=
  { subject := .relay r, value := .relay x.status x.contact, time := x.statusTime }

/-- A relay's record written with stage 8's results: a changed status adds the relay to the changed set (R52), and a
changed fault class offers a RELAY record and moves RELAY_FAULT (R54). -/
def storeRelay (r : RelayIdx) (x : RelayRuntime) (s : State) : State :=
  let old := s.relays[r]
  let s' := s.setRelays (s.relays.set r x)
  let s'' := if old.status = x.status then s'
    else s'.setEvaluator { s'.evaluator with changed := s'.evaluator.changed ++ [r] }
  if faultClass old.status = faultClass x.status then s'' else makeKnown [relayOffer r x] [] [cRelayFault] s''

/-- The Class record a Relay entry names; an entry of kind NONE names none and reads as a record not loaded. -/
def Bank.classOf (b : Bank) (e : RelayEntry) : ClassRecord :=
  match e.common with
  | some c => b.classes[c.flickerClass]
  | none => .notLoaded

/-- The relays of a card in a bank, in ascending relay index (R40). -/
def Bank.relaysOf (b : Bank) (n : CardIdx) : List RelayIdx :=
  (List.finRange 768).filter fun r => (b.relays[r]).onCard n

/-- One relay of card `n` advanced by one sample at time `t` (R40, R43). It reads the known flags as they stand: the pass
is part of one whole step (spec/95), so no flag changes between its relays, and a flag that changes while a frame may still
find the pass in flight finds every relay of it advanced (`announceCard`; DEDUCED, log 9). -/
def advanceRelay (n : CardIdx) (t : Time) (s : State) (r : RelayIdx) : State :=
  let e := s.tables.active.relays[r]
  storeRelay r
    (sampleRelay e (s.tables.active.classOf e) (rawDecode e s.input.values[n] s.input.known[n]) t s.relays[r]) s

/-- The relay pass for card `n` (R40). -/
def relayPass (n : CardIdx) (t : Time) (s : State) : State :=
  (s.tables.active.relaysOf n).foldl (advanceRelay n t) s

/-! ### Indication results -/

/-- The statuses of the input relays of an indication, in their order. -/
def State.inputStatuses (s : State) (e : IndicationEntry) : List Status := e.inputs.map fun r => (s.relays[r]).status

/-- The latest of some times, judged from `present` (R86): the pass's sample time or the event's time, as R86 says for
status times, and not the present counter value, as R163 says of any two times (DEDUCED, log 30). -/
def latest (present : Time) : List Time → Time
  | [] => present
  | t :: ts => ts.foldl (laterOf present) t

/-- The change time of a code stored in a pass at time `t`: the latest status time among the inputs that are in the
changed set (R86). -/
def State.changeTime (s : State) (e : IndicationEntry) (t : Time) : Time :=
  latest t ((e.inputs.filter fun r => s.evaluator.changed.contains r).map fun r => (s.relays[r]).statusTime)

/-- The INDICATION record of a code (R87, R93). -/
def indicationOffer (i : IndicationIdx) (code : Option Code) (time : Time) : Offer :=
  { subject := .indication i, value := .indication code, time := time }

/-- An indication's new code stored with its change time, and its INDICATION record offered when its entry reports (R85,
R87). -/
def storeIndication (report : Bool) (i : IndicationIdx) (code : Option Code) (time : Time) (s : State) : State :=
  let s' := s.setIndications (s.indications.set i { s.indications[i] with code := code, changeTime := time })
  if report then offer (indicationOffer i code time) s' else s'

/-- One defined indication evaluated in a pass, and its result applied where it differs from the stored code (R85 to
R87). -/
def evaluateIndication (t : Time) (s : State) (i : IndicationIdx) : State :=
  match s.tables.active.indications[i] with
  | none => s
  | some e =>
    let entry := s.indications[i]
    let code := evaluate e s.tables.active.patterns[e.pattern] (s.inputStatuses e) entry.code
    if entry.code = some code then s else storeIndication e.report i (some code) (s.changeTime e t) s

/-- The defined indications that name a relay in the changed set, in ascending index (R80). -/
def State.indicationsToEvaluate (s : State) : List IndicationIdx :=
  (List.finRange 512).filter fun i =>
    match s.tables.active.indications[i] with
    | some e => e.inputs.any fun r => s.evaluator.changed.contains r
    | none => false

/-- The indication pass that follows a relay pass or a card event of time `t`; the changed set is emptied when it has
completed (R52, R80). It is the last of its step to offer records, so the queue then takes every offer that waits. -/
def indicationPass (t : Time) (s : State) : State :=
  let s' := settle (s.indicationsToEvaluate.foldl (evaluateIndication t) s)
  s'.setEvaluator { s'.evaluator with changed := [] }

/-! ### The pass in flight (R58, R89, log 9) -/

/-- A pass begins, a relay pass of the given card or that of a card event: until it is known to be complete, a frame may
find the records and entries that stand now (log 9). -/
def beginPass (card : Option CardIdx) (s : State) : State :=
  s.setEvaluator { s.evaluator with
    pass := some { card := card, relays := s.relays, indications := s.indications, report := s.report
                   conditions := s.conditions, choices := s.choices, time := s.time, place := 0 } }

/-- The pass that may have been in flight has completed. -/
def endPass (s : State) : State := s.setEvaluator { s.evaluator with pass := none }

/-- The Relay Runtime record that a frame or answer built now finds (R58). -/
def State.shownRelay (s : State) (r : RelayIdx) : RelayRuntime :=
  match s.evaluator.pass with
  | some p => if r.val < p.place then s.relays[r] else p.relays[r]
  | none => s.relays[r]

/-- The Indication Image entry that a frame built now finds (R89). -/
def State.shownIndication (s : State) (i : IndicationIdx) : ImageEntry :=
  match s.evaluator.pass with
  | some p => if 768 + i.val < p.place then s.indications[i] else p.indications[i]
  | none => s.indications[i]

/-- Does the entry of an indication in the Active bank report (R87)? -/
def State.reports (s : State) (i : IndicationIdx) : Bool :=
  match s.tables.active.indications[i] with
  | some e => e.report
  | none => false

/-- The relays whose records a pass has changed by the time it stands at a place, in ascending index. -/
def PassInFlight.relaysDone (p : PassInFlight) (s : State) (place : Nat) : List RelayIdx :=
  (List.finRange 768).filter fun r => r.val < place && p.relays[r] != s.relays[r]

/-- The indications whose entries a pass has changed by the time it stands at a place, in ascending index. -/
def PassInFlight.indicationsDone (p : PassInFlight) (s : State) (place : Nat) : List IndicationIdx :=
  (List.finRange 512).filter fun i => 768 + i.val < place && p.indications[i] != s.indications[i]

/-- What a pass changes, as it stood before the pass. -/
def State.beforePass (s : State) (p : PassInFlight) : State :=
  ((((((s.setRelays p.relays).setIndications p.indications).setReport p.report).setConditions p.conditions).setChoices
    p.choices).setTime p.time)

/-- The part with a pass at a place: what stood before the pass, with the pass's results up to the place stored again, each
with its record and what RELAY_FAULT, REPORT_HIGH and REPORT_OVERFLOW make of it (R54, R57, R87). -/
def State.replay (s : State) (p : PassInFlight) (place : Nat) : State :=
  let relaysDone := (p.relaysDone s place).foldl (fun x r => storeRelay r s.relays[r] x) (s.beforePass p)
  let done := (p.indicationsDone s place).foldl
    (fun x i => storeIndication (s.reports i) i (s.indications[i]).code (s.indications[i]).changeTime x) relaysDone
  (if passEnd ≤ place then settle done else done).setTime s.time

/-- Do the Report Queue and the conditions still stand as a pass left them? -/
def State.asPassLeft (s : State) (p : PassInFlight) : Bool :=
  let t := s.replay p passEnd
  t.report = s.report && t.conditions = s.conditions

/-- The one moment at which a STATUS READ that finds a pass in flight at a place reads its items (R58, R162). -/
def State.momentAt (s : State) (place : Nat) : State :=
  match s.evaluator.pass with
  | some p => if passEnd ≤ place then s else s.replay p place
  | none => s

/-- A frame or answer is built where a pass may be in flight, and finds it at the given place or where it was found before
if that is further. -/
def builtAt (place : Nat) (s : State) : State :=
  match s.evaluator.pass with
  | some _ => (foundAt place s).setChoices (s.choices + 1)
  | none => s

/-- The moment at which a frame is built: where a pass may be in flight, a free choice says how far it has come, and it has
come no less far than it was found before (R58, R89, log 9). -/
def atBuild (s : State) : State := builtAt (Config.passPlace s.choices) s

/-- The moment at which a STATUS READ is built: a free choice as well while the Report Queue and the conditions stand as the
pass left them; once a command has moved them the pass is found complete (R162, log 9). -/
def atStatus (s : State) : State :=
  match s.evaluator.pass with
  | some p => builtAt (if s.asPassLeft p then Config.passPlace s.choices else passEnd) s
  | none => s

/-- How far a pass that may be in flight has been found; its end where there is none. -/
def State.foundPlace (s : State) : Nat :=
  match s.evaluator.pass with
  | some p => p.place
  | none => passEnd

/-- The place just beyond the first relay at fault, where the pass began with none at fault: RELAY_FAULT has risen there
(R54). -/
def PassInFlight.riseOfRelayFault (p : PassInFlight) (s : State) : Nat :=
  if p.relays.toList.any fun x => faultClass x.status != .normal then 0
  else
    match (List.finRange 768).find? fun r => faultClass (s.relays[r]).status != .normal with
    | some r => r.val + 1
    | none => 0

/-- How far the pass has come where the record of a subject holds what the pass made of it: beyond the relay whose fault
class, or the indication whose code, it has changed (R54, R87), and beyond the rise of RELAY_FAULT (R158). -/
def PassInFlight.placeOf (p : PassInFlight) (s : State) : Subject → Nat
  | .relay r => if faultClass (p.relays[r]).status = faultClass (s.relays[r]).status then 0 else r.val + 1
  | .indication i => if (p.indications[i]).code = (s.indications[i]).code then 0 else 768 + i.val + 1
  | .condition n => if n = cRelayFault then p.riseOfRelayFault s else 0
  | .card _ => 0
  | .restarted => 0
  | .resync => 0

/-- Records leave the Report Queue: a pass that may be in flight has come at least beyond each relay and indication whose
change they carry (R58, R87, R89, log 9). -/
def atRemoval (records : List ChangeRecord) (s : State) : State :=
  match s.evaluator.pass with
  | some p => foundAt ((records.map fun x => p.placeOf s x.subject).foldl max 0) s
  | none => s

/-! ### Conversions (R12 to R14) -/

/-- The 64 Input Image values of a frame's card written (R13, R14, R15). -/
def writeImage (e : QueueEntry) (s : State) : State :=
  s.setInput { s.input with values := s.input.values.set e.card e.samples }

/-- A frame discarded as stale is counted at its card (R13). -/
def countStale (n : CardIdx) (s : State) : State :=
  let c := s.cards[n]
  putCard n { c with counters := { c.counters with stale := raise c.counters.stale } } s

/-- A frame taken from the queue, its fate decided by its card's present state (R13, R14). -/
def convert (e : QueueEntry) (s : State) : State :=
  match (s.cards[e.card]).state with
  | .inService => indicationPass e.arrival (relayPass e.card e.arrival (beginPass (some e.card) (writeImage e s)))
  | .waiting => writeImage e s
  | .suspect => writeImage e s
  | _ => countStale e.card s

/-- Can the engine take up work: is it IDLE, with no card event in flight at the Relay Evaluator (R12)? An event that only
waits there does not hold it up: whether it is taken first, or waits across the swap or the conversion, is the order of the
commands (R56, log 31). -/
def State.engineFree (s : State) : Bool := s.engine.state = .idle && !s.evaluator.inFlight

/-- Is a frame removed now converted with a relay pass: is its card IN_SERVICE (R13)? -/
def State.runsPass (s : State) (e : QueueEntry) : Bool := (s.cards[e.card]).state = .inService

/-- CONVERSION_START: with no swap waiting, the oldest entry is removed and the engine is CONVERTING (R12 to R14). Any
pass before it has completed (R12, R57). -/
def execConversionStart (s : State) : Result :=
  .next <|
    if s.engineFree && !s.engine.swapWaiting then
      match s.frameQueue with
      | e :: rest =>
        convert e
          (endPass ((s.setFrameQueue rest).setEngine { s.engine with state := .converting e (s.runsPass e) }))
      | [] => s
    else s

/-- CONVERSION_COMPLETE: a conversion with a relay pass completes when the card events that wait have been taken, and with
them the last indication pass (R14, R56, log 31). One that wrote the image alone or discarded its frame waits for no card
event, and leaves the pass of an event that may be in flight (R13). -/
def execConversionComplete (s : State) : Result :=
  .next <|
    match s.engine.state with
    | .converting _ true =>
      if s.evaluator.events.isEmpty then endPass (s.setEngine { s.engine with state := .idle }) else s
    | .converting _ false => s.setEngine { s.engine with state := .idle }
    | .idle => s
    | .swapping _ => s

/-! ### Card events (R55, R56) -/

/-- The oldest event leaves the Relay Evaluator's list; those behind it wait. -/
def popEvent (s : State) : State :=
  s.setEvaluator { s.evaluator with events := s.evaluator.events.tail, inFlight := false }

/-- A card event applied to the relays in its set, in ascending index, then its indication pass (R55, R56). The pass
before it has completed (R56, R57). -/
def applyEvent (reason : UnprovenReason) (t : Time) (relays : List RelayIdx) (s : State) : State :=
  indicationPass t (relays.foldl (fun s r => storeRelay r (eventRelay reason t s.relays[r]) s) (beginPass none s))

/-- The relays of card `n` that name at least one of the fallen inputs (R55). -/
def Bank.relaysNaming (b : Bank) (n : CardIdx) (fallen : Inputs) : List RelayIdx :=
  (b.relaysOf n).filter fun r => (b.relays[r]).bits.any fun bit => fallen.getLsbD bit.val

/-- CARD_OUT_EVENT: every relay of the card becomes UNPROVEN with reason CARD_OUT (R55). During a swap events wait; one
that has waited across it is applied against the bank it leaves (R56). -/
def execCardOutEvent (s : State) : Result :=
  .next <|
    if s.swapping then s
    else
      match s.evaluator.events.head? with
      | some (.cardOut n t) => applyEvent .cardOut t (s.tables.active.relaysOf n) (popEvent s)
      | _ => s

/-- KNOWN_INPUTS_EVENT: the relays that name a fallen input become UNPROVEN with reason INPUT_UNKNOWN (R55). -/
def execKnownInputsEvent (s : State) : Result :=
  .next <|
    if s.swapping then s
    else
      match s.evaluator.events.head? with
      | some (.knownInputs n fallen _ t) => applyEvent .inputUnknown t (s.tables.active.relaysNaming n fallen) (popEvent s)
      | _ => s

end Sys2Proof.Machine
end

