-- ==== Sys2Proof/Machine/Commit.lean ====
section
/-! DEFINITION. The commit check (R131 to R135), the deferred answers (R151), and the commit swap with its carry-over (R16, R37,
R92, R93, R138 to R141). -/

namespace Sys2Proof.Machine

/-! ### The commit check (R131 to R133) -/

/-- The nine error kinds of a refusal (R131 to R133, R167). -/
inductive ErrorKind where
  | badWindow
  | badHysteresis
  | refCard
  | sameBit
  | inputShared
  | badFlash
  | refClass
  | refRelay
  | refPattern
  deriving DecidableEq, Repr

/-- The error kind byte (R167). -/
def ErrorKind.byte : ErrorKind → Byte
  | .badWindow => 1
  | .badHysteresis => 2
  | .refCard => 3
  | .sameBit => 4
  | .inputShared => 5
  | .badFlash => 6
  | .refClass => 7
  | .refRelay => 8
  | .refPattern => 9

/-- A record the check examines. -/
inductive CheckItem where
  | card (c : CardIdx)
  | cls (k : ClassIdx)
  | relay (r : RelayIdx)
  | indication (i : IndicationIdx)
  deriving DecidableEq, Repr

/-- The index a refusal at this record carries (R134). -/
def CheckItem.index : CheckItem → Nat
  | .card c => c.val
  | .cls k => k.val
  | .relay r => r.val
  | .indication i => i.val

/-- The records in the order of the check: the four groups, each in ascending index (R131). -/
def checkOrder : List CheckItem :=
  (List.finRange 16).map .card ++ (List.finRange 8).map .cls ++
    (List.finRange 768).map .relay ++ (List.finRange 512).map .indication

/-- Group 1: Wo is less than Wc, on every Card entry (R131). -/
def Bank.cardError (b : Bank) (c : CardIdx) : Option ErrorKind :=
  if (b.cards[c]).windowOpen < (b.cards[c]).windowClose then none else some .badWindow

/-- Group 2: Lo is less than U, on loaded Class records (R131). -/
def Bank.classError (b : Bank) (k : ClassIdx) : Option ErrorKind :=
  let r := b.classes[k]
  if r.loaded && !(r.lower < r.upper : Bool) then some .badHysteresis else none

/-- Test b of R132: a PAIRED entry whose two bits are equal. -/
def RelayEntry.sameBit : RelayEntry → Bool
  | .paired f b _ _ => f = b
  | _ => false

/-- Test c of R132: does an entry of lower index name one of this entry's inputs? -/
def Bank.inputShared (b : Bank) (r : RelayIdx) : Bool :=
  (List.finRange 768).any fun q => q < r && (b.relays[q]).inputs.any fun i => (b.relays[r]).inputs.contains i

/-- Test d of R132: a flash window whose Fmin is above Fmax. -/
def RelayEntry.badFlash (e : RelayEntry) : Bool :=
  match e.flashWindow with
  | some w => w.fmax < w.fmin
  | Option.none => false

/-- Group 3: the five tests on a Relay entry of a kind other than NONE, in the order a to e (R132). -/
def Bank.relayError (b : Bank) (r : RelayIdx) : Option ErrorKind :=
  let e := b.relays[r]
  match e.common with
  | none => none
  | some c =>
    if !(b.cards[c.card]).enable then some .refCard
    else if e.sameBit then some .sameBit
    else if b.inputShared r then some .inputShared
    else if e.badFlash then some .badFlash
    else if !(b.classes[c.flickerClass]).loaded then some .refClass
    else none

/-- Group 4: the two tests on a defined Indication entry (R133). -/
def Bank.indicationError (b : Bank) (i : IndicationIdx) : Option ErrorKind :=
  match b.indications[i] with
  | none => none
  | some e =>
    if e.inputs.any fun r => b.relays[r] = .none then some .refRelay
    else if !(b.patterns[e.pattern]).loaded then some .refPattern
    else none

/-- The tests of one record. -/
def Bank.itemError (b : Bank) : CheckItem → Option ErrorKind
  | .card c => b.cardError c
  | .cls k => b.classError k
  | .relay r => b.relayError r
  | .indication i => b.indicationError i

/-- The first failure among some records, with the index of the record that failed (R131, R134). -/
def Bank.firstError (b : Bank) (items : List CheckItem) : Option (ErrorKind × Nat) :=
  items.findSome? fun it => (b.itemError it).map fun k => (k, it.index)

/-- The rest of the check, from the given position on. -/
def Bank.checkFrom (b : Bank) (position : Nat) : Option (ErrorKind × Nat) := b.firstError (checkOrder.drop position)

/-- Does a bank pass the whole check (R133)? -/
def Bank.passes (b : Bank) : Bool := (b.checkFrom 0).isNone

/-- CHECK_PASS: no test fails, so the swap is handed to the Conversion Engine and the checker waits for it (R135). -/
def execCheckPass (s : State) : Result :=
  .next <|
    match s.tables.checker with
    | .checking w position =>
      if (s.tables.staging.checkFrom position).isNone then
        (s.setTables { s.tables with checker := .swapWaiting w }).setEngine { s.engine with swapWaiting := true }
      else s
    | _ => s

/-- CHECK_REFUSED: the first failure ends the check; REFUSED with the error kind and index, COMMIT_REFUSED, and the
checker IDLE (R134). -/
def execCheckRefused (s : State) : Result :=
  .next <|
    match s.tables.checker with
    | .checking w position =>
      match s.tables.staging.checkFrom position with
      | some (kind, index) =>
        announce [] [cCommitRefused] []
          (deferAnswer w .refused (kind.byte :: be16 (BitVec.ofNat 16 index))
            (s.setTables { s.tables with checker := .idle }))
      | none => s
    | _ => s

/-- DEFERRED_ANSWER_PLACED: the oldest deferred answer becomes an entry when there is room (R151). -/
def execDeferredAnswerPlaced (s : State) : Result :=
  .next <|
    match s.link.deferred with
    | f :: rest => if s.hasRoom then placeEntry ⟨f, false⟩ (s.setLink { s.link with deferred := rest }) else s
    | [] => s

/-! ### The swap (R16, R138) -/

/-- COMMIT_SWAP_BEGIN: a free engine takes the waiting swap ahead of any queued frame, every pass complete (R12, R16,
R89). -/
def execCommitSwapBegin (s : State) : Result :=
  .next <|
    if s.engineFree && s.engine.swapWaiting then
      endPass (s.setEngine { state := .swapping s.time.counter, swapWaiting := false })
    else s

/-- Steps 1 and 2: Staging copied into Active, and the generation raised by 1, wrapping (R138). -/
def swapBanks (s : State) : State :=
  s.setTables { s.tables with active := s.tables.staging, generation := s.tables.generation + 1 }

/-- A card's context after the swap: kept under an identical entry; begun again, ABSENT or WAITING, under a changed and
enabled one; OFF under a changed and disabled one (R37). -/
def carriedCard (old new : CardEntry) (carrier : Bool) (c : CardContext) : CardContext :=
  if old = new then c
  else (c.stopped (if new.enable then startState carrier else .off)).clearProving

/-- One card taken over the swap. -/
def carryCard (old : Bank) (s : State) (n : CardIdx) : State :=
  putCard n (carriedCard old.cards[n] s.tables.active.cards[n] s.lanes[n].carrier s.cards[n]) s

/-- Step 3: the card carry-over, with its CARD records (R37, R138). R37 and R138 give these records no order among
themselves. DESIGN CHOICE (log 32): ascending card order. -/
def carryCards (old : Bank) (t : Time) (s : State) : State :=
  let s' := (List.finRange 16).foldl (carryCard old) s
  makeKnown ((List.finRange 16).flatMap fun n => cardOffers n t s.cards[n] s'.cards[n]) [] [cCardDown, cProvingFail] s'

/-- Is relay `r` carried over: a relay of both banks whose entry, Class record and Card entry are identical (R139,
R140)? -/
def relayCarried (old new : Bank) (r : RelayIdx) : Bool :=
  match (new.relays[r]).common with
  | none => false
  | some c =>
    old.relays[r] = new.relays[r] && old.classes[c.flickerClass] = new.classes[c.flickerClass] &&
      old.cards[c.card] = new.cards[c.card]

/-- The runtime record of one relay after the swap: carried over, or reset (R140). -/
def carriedRelay (old new : Bank) (t : Time) (before : Vector RelayRuntime 768) (r : RelayIdx) : RelayRuntime :=
  if relayCarried old new r then before[r] else .reset t

/-- The RELAY record that a reset at the swap offers: when the relay's fault class changes (R53, R140). -/
def swapRelayOffer (before after : Vector RelayRuntime 768) (r : RelayIdx) : List Offer :=
  let x := before[r]
  let y := after[r]
  if faultClass x.status = faultClass y.status then [] else [relayOffer r y]

/-- Step 4: the relay carry-over, with its RELAY records in ascending relay order (R53, R140). -/
def carryRelays (old : Bank) (t : Time) (s : State) : State :=
  let after := Vector.ofFn (carriedRelay old s.tables.active t s.relays)
  makeKnown ((List.finRange 768).flatMap (swapRelayOffer s.relays after)) [] [cRelayFault] (s.setRelays after)

/-- Is an indication kept: its entry and its Pattern record identical, and every input relay carried over (R139,
R141)? -/
def indicationKept (old new : Bank) (i : IndicationIdx) : Bool :=
  match new.indications[i] with
  | none => false
  | some e =>
    old.indications[i] = some e && old.patterns[e.pattern] = new.patterns[e.pattern] &&
      e.inputs.all fun r => relayCarried old new r

/-- An image entry that takes a code or UNDEFINED at the swap: an equal value keeps its change time (R92). -/
def ImageEntry.atSwap (x : ImageEntry) (defined : Bool) (code : Option Code) (t : Time) : ImageEntry :=
  if x.code = code then { x with defined := defined } else { defined := defined, code := code, changeTime := t }

/-- The Indication Image entry of one indication after the swap (R92). -/
def carriedIndication (old : Bank) (t : Time) (s : State) (i : IndicationIdx) : ImageEntry :=
  let new := s.tables.active
  let x := s.indications[i]
  match old.indications[i], new.indications[i] with
  | none, none => x
  | some _, none => x.atSwap false none t
  | some _, some e =>
    if indicationKept old new i then x
    else x.atSwap true (some (evaluate e new.patterns[e.pattern] (s.inputStatuses e) x.code)) t
  | none, some e =>
    { defined := true, changeTime := t
      code := some (evaluate e new.patterns[e.pattern] (s.inputStatuses e) none) }

/-- Does a change of an indication at the swap offer a record: does the new entry report, or the old one where the
indication is newly undefined (R93)? -/
def reportsAtSwap (old new : Bank) (i : IndicationIdx) : Bool :=
  match new.indications[i], old.indications[i] with
  | some e, _ => e.report
  | none, some e => e.report
  | none, none => false

/-- The INDICATION record that one indication's change at the swap offers (R93). -/
def swapIndicationOffer (old new : Bank) (before after : Vector ImageEntry 512) (i : IndicationIdx) : List Offer :=
  let x := before[i]
  let y := after[i]
  if x.code = y.code then []
  else if reportsAtSwap old new i then [indicationOffer i y.code y.changeTime] else []

/-- Step 5: the indication carry-over, with its INDICATION records in ascending index (R92, R93, R141). -/
def carryIndications (old : Bank) (t : Time) (s : State) : State :=
  let after := Vector.ofFn (carriedIndication old t s)
  offerAll ((List.finRange 512).flatMap (swapIndicationOffer old s.tables.active s.indications after))
    (s.setIndications after)

/-- The completion of a swap: engine and checker IDLE, OK with the new generation, COMMIT_DONE (R138). -/
def finishSwap (s : State) : State :=
  let s' := (s.setEngine { s.engine with state := .idle }).setTables { s.tables with checker := .idle }
  let s'' :=
    match s.tables.checker with
    | .swapWaiting w => deferAnswer w .ok (be16 s.tables.generation) s'
    | _ => s'
  announce [] [cCommitDone] [] s''

/-- The five steps of a swap taken at time `t`, in their order, and its completion (R138). -/
def swap (t : Time) (s : State) : State :=
  let old := s.tables.active
  finishSwap (carryIndications old t (carryRelays old t (carryCards old t (swapBanks s))))

/-- COMMIT_SWAP_COMPLETE: the swap in progress takes its steps and completes, and the requests that have waited are
handed on (R138, R150). DESIGN CHOICE (log 34): the UNKNOWN, LENGTH and FIELD answers of those that the Desk Link Unit answers
itself are placed here, and the COMMIT's OK by a later DEFERRED_ANSWER_PLACED, so they stand before it even with room for it
(R150 and R151 give no order). -/
def execCommitSwapComplete (s : State) : Result :=
  .next <|
    match s.engine.state with
    | .swapping t => handOn (swap t s)
    | _ => s

end Sys2Proof.Machine
end

