-- ==== Sys2Proof/Machine/Encodings.lean ====
section
/-! DEFINITION. The value encodings of R167, used alike in Change Records, snapshot items and IMAGE frames, and the
Change Record's fourteen bytes. -/

namespace Sys2Proof.Machine

/-- A 16-bit field holding a number below 65536. -/
def word16 (n : Nat) : BitVec 16 := BitVec.ofNat 16 n

/-- A byte holding a number below 256. -/
def byte (n : Nat) : Byte := BitVec.ofNat 8 n

/-- The code of an indication, or FFh for UNDEFINED. -/
def codeByte : Option Code → Byte
  | some c => byte c.val
  | none => 0xFF

/-- The three status bits. -/
def statusNumber : Status → Nat
  | .down => 0
  | .up => 1
  | .transit => 2
  | .flashing => 3
  | .flickering => 4
  | .contradictory => 5
  | .unproven => 6

/-- The three reason bits; 0 when no fault reason is present. -/
def reasonNumber : Contact → Nat
  | .steady _ => 0
  | .transit => 0
  | .unproven .inputUnknown => 1
  | .unproven .cardOut => 2
  | .unproven .newEntry => 3
  | .contradictory .bothClosed => 4
  | .contradictory .transitTimeout => 5

/-- The relay status byte: status in bits 2 to 0, reason in bits 6 to 4. -/
def relayStatusByte (status : Status) (contact : Contact) : Byte :=
  byte (statusNumber status + 16 * reasonNumber contact)

/-- The three card state bits. -/
def cardStateNumber : CardState → Nat
  | .off => 0
  | .absent => 1
  | .waiting => 2
  | .inService => 3
  | .suspect => 4
  | .late => 5
  | .faulty _ => 6

/-- The two fault reason bits. -/
def cardReasonNumber : CardState → Nat
  | .faulty .early => 1
  | .faulty .code => 2
  | .faulty .lane => 3
  | _ => 0

/-- The card byte: state in bits 2 to 0, reason in bits 4 and 3, proving status FAIL in bit 7. -/
def cardByte (state : CardState) (proving : ProvingStatus) : Byte :=
  byte (cardStateNumber state + 8 * cardReasonNumber state + (if proving = .fail then 128 else 0))

/-- The subject kind byte of a Change Record. -/
def subjectKindNumber : Subject → Nat
  | .indication _ => 1
  | .relay _ => 2
  | .card _ => 3
  | .condition _ => 4
  | .restarted => 5
  | .resync => 5

/-- The subject index of a Change Record. -/
def subjectIndex : Subject → Nat
  | .indication i => i.val
  | .relay r => r.val
  | .card c => c.val
  | .condition n => n.val
  | .restarted => 0
  | .resync => 1

/-- The value byte of a Change Record. -/
def valueByte : RecordValue → Byte
  | .indication code => codeByte code
  | .relay status contact => relayStatusByte status contact
  | .card state proving => cardByte state proving
  | .condition n => byte n.val
  | .restarted => 0
  | .resync => 1

/-- The fourteen bytes of a Change Record. -/
def recordBytes (r : ChangeRecord) : List Byte :=
  byte (subjectKindNumber r.subject) :: be16 (word16 (subjectIndex r.subject)) ++
    valueByte r.value :: be32 r.firstTime ++ be32 r.lastTime ++ [byte r.count, flagByte r.timeValid]

/-- The REPORT payload: a record count, then the records, oldest first. -/
def reportPayload (records : List ChangeRecord) : List Byte :=
  byte records.length :: records.flatMap recordBytes

/-- A condition set: 16 flags packed in two bytes, bit n for condition n (R165, R167). -/
def conditionSetBytes (v : Vector Bool 11) : List Byte :=
  [flagsByte (v.toList.take 8), flagsByte (v.toList.drop 8)]

/-- The conditions that the two bytes of a condition set name. -/
def readConditionSet (b0 b1 : Byte) : Vector Bool 11 :=
  Vector.ofFn fun n => if n.val < 8 then b0.getLsbD n.val else b1.getLsbD (n.val - 8)

/-- Does the set name a condition above 10, by any of bits 11 to 15? -/
def namesConditionAbove10 (b1 : Byte) : Bool := b1.extractLsb' 3 5 != 0

end Sys2Proof.Machine
end

