-- ==== Sys2Proof/Machine/Conditions.lean ====
section
/-! DEFINITION. The Condition Unit's requests: STATUS READ (R162), CONDITION ENABLE (R159) and CONDITION ACK (R160). -/

namespace Sys2Proof.Machine

/-! ### STATUS READ -/

/-- The 21 bytes of the STATUS READ body (R162, R167). -/
def State.statusBody (s : State) : List Byte :=
  conditionSetBytes s.conditions.live ++ conditionSetBytes s.conditions.latched ++
    conditionSetBytes s.conditions.enables ++ [flagByte s.alarm] ++ be32 s.time.counter ++ [flagByte s.time.valid] ++
    be16 (word16 s.report.records.length) ++ [flagByte s.report.resyncNeeded] ++ be16 s.report.refused ++
    [byte s.cardsDown, byte s.cardsFailing] ++ be16 (word16 s.relaysAtFault)

/-- STATUS READ as the Condition Unit takes it: every item is read at the one moment at which the answer is built, where a
pass may be in flight (R58, R162). -/
def actStatusRead (q : Request) (s : State) : State :=
  let s' := atStatus s
  answer q .ok (s'.momentAt s'.foundPlace).statusBody s'

/-- STATUS_READ (R162). -/
def execStatusRead (s : State) : Result := .next (serve (hasCode statusReadCode) actStatusRead s)

/-! ### CONDITION ENABLE -/

/-- One condition after its enable has been replaced: an enable that rises while the condition is live latches it; one
that falls clears its latched flag (R159). The queue may take its CONDITION record before the next condition is acted
on (R100, log 4). -/
def enableCondition (old : Vector Bool 11) (s : State) (n : ConditionIdx) : State :=
  if !old[n] && s.conditions.enables[n] && s.conditions.live[n] then takeFreely (rise n s)
  else if old[n] && !s.conditions.enables[n] then s.setLatched n false
  else s

/-- The enables replaced, then each condition acted on in ascending number (R159). -/
def replaceEnables (enables : Vector Bool 11) (s : State) : State :=
  settle ((List.finRange 11).foldl (enableCondition s.conditions.enables)
    (s.setConditions { s.conditions with enables := enables }))

/-- CONDITION ENABLE as the Condition Unit takes it (R159). It acts on and shows the flags as a pass that may be in flight
leaves them, so it finds that pass complete (log 9). -/
def actConditionEnable (q : Request) (s : State) : State :=
  if namesConditionAbove10 (byteAt q.payload 2) then answer q .field [] s
  else
    let enables := readConditionSet (byteAt q.payload 1) (byteAt q.payload 2)
    let s' := replaceEnables enables (foundAt passEnd s)
    answer q .ok (conditionSetBytes s'.conditions.enables ++ conditionSetBytes s'.conditions.latched) s'

/-- CONDITION_ENABLE (R159). -/
def execConditionEnable (s : State) : Result := .next (serve (hasCode conditionEnableCode) actConditionEnable s)

/-! ### CONDITION ACK -/

/-- One named condition acknowledged: its latched flag cleared, and latched again at once when it is enabled and live
(R160). The queue may take its new CONDITION record before the next condition is acted on: with a full queue, the
refusal's REPORT_OVERFLOW event may come before or after that condition is acknowledged (R100, R160, log 4). -/
def ackCondition (named : Vector Bool 11) (s : State) (n : ConditionIdx) : State :=
  if named[n] then
    let s' := s.setLatched n false
    if s'.conditions.live[n] then takeFreely (rise n s') else s'
  else s

/-- The named conditions acknowledged, in ascending number (R160). -/
def acknowledge (named : Vector Bool 11) (s : State) : State :=
  settle ((List.finRange 11).foldl (ackCondition named) s)

/-- CONDITION ACK as the Condition Unit takes it (R160). It acts on and shows the flags as a pass that may be in flight
leaves them, so it finds that pass complete (log 9). -/
def actConditionAck (q : Request) (s : State) : State :=
  if namesConditionAbove10 (byteAt q.payload 2) then answer q .field [] s
  else
    let named := readConditionSet (byteAt q.payload 1) (byteAt q.payload 2)
    let s' := acknowledge named (foundAt passEnd s)
    answer q .ok (conditionSetBytes s'.conditions.latched) s'

/-- CONDITION_ACK (R160). -/
def execConditionAck (s : State) : Result := .next (serve (hasCode conditionAckCode) actConditionAck s)

end Sys2Proof.Machine
end

