-- ==== Sys2Proof/Machine/Records.lean ====
section
/-! DEFINITION. The table record encodings of R168, the field tests of R127, and the stored forms of R125. -/

namespace Sys2Proof.Machine

/-- The five tables (R124). -/
inductive TableCode where
  | card
  | relay
  | cls
  | indication
  | pattern
  deriving DecidableEq, Repr

/-- The table a table code names (R167). -/
def tableOfByte (b : Byte) : Option TableCode :=
  if b = 1 then some .card
  else if b = 2 then some .relay
  else if b = 3 then some .cls
  else if b = 4 then some .indication
  else if b = 5 then some .pattern
  else none

/-- The table code byte (R167). -/
def TableCode.byte : TableCode → Byte
  | .card => 1
  | .relay => 2
  | .cls => 3
  | .indication => 4
  | .pattern => 5

/-- The number of records of a table (R124). -/
def TableCode.records : TableCode → Nat
  | .card => 16
  | .relay => 768
  | .cls => 8
  | .indication => 512
  | .pattern => 32

/-- The encoded size of a table's record (R168). -/
def TableCode.recordSize : TableCode → Nat
  | .card => 30
  | .relay => 10
  | .cls => 5
  | .indication => 12
  | .pattern => 82

/-- The number of a table's records that one TABLE READ answer holds (R168). -/
def TableCode.perFrame : TableCode → Nat
  | .card => 7
  | .relay => 23
  | .cls => 46
  | .indication => 19
  | .pattern => 2

/-- Eight bytes at place `k` as 64 packed flags. -/
def inputsAt (bs : List Byte) (k : Nat) : Inputs :=
  unpackInputs (byteAt bs k) (byteAt bs (k + 1)) (byteAt bs (k + 2)) (byteAt bs (k + 3))
    (byteAt bs (k + 4)) (byteAt bs (k + 5)) (byteAt bs (k + 6)) (byteAt bs (k + 7))

/-- The number at place `k`. -/
def natAt (bs : List Byte) (k : Nat) : Nat := (byteAt bs k).toNat

/-- The two-byte number at place `k`, more significant byte first. -/
def nat16At (bs : List Byte) (k : Nat) : Nat := (ofBe16 (byteAt bs k) (byteAt bs (k + 1))).toNat

/-- A number as an index below `n`, when it is one. -/
def index? (n x : Nat) : Option (Fin n) := if h : x < n then some ⟨x, h⟩ else none

/-- Does a number lie in a range that includes both ends? -/
def within (lo hi x : Nat) : Bool := lo ≤ x && x ≤ hi

/-! ### Card records -/

/-- The proving interval a byte names (R168). -/
def intervalOfByte (b : Byte) : Option ProvingInterval :=
  if b = 0 then some .off
  else if b = 4 then some .n4
  else if b = 8 then some .n8
  else if b = 16 then some .n16
  else if b = 32 then some .n32
  else none

/-- The byte of a proving interval (R168). -/
def intervalByte : ProvingInterval → Byte
  | .off => 0
  | .n4 => 4
  | .n8 => 8
  | .n16 => 16
  | .n32 => 32

/-- A Card record read from its 30 bytes; none when a field lies outside its range (R127, R168). -/
def readCard (bs : List Byte) : Option CardEntry :=
  (intervalOfByte (byteAt bs 1)).bind fun n =>
    if within 1 250 (natAt bs 3) && within 2 1000 (nat16At bs 4) then
      some
        { enable := (byteAt bs 0).getLsbD 0
          expectedCode := byteAt bs 2
          windowOpen := natAt bs 3
          windowClose := nat16At bs 4
          interval := n
          pattern0 := inputsAt bs 6
          pattern1 := inputsAt bs 14
          mask := inputsAt bs 22
          mode := if (byteAt bs 0).getLsbD 1 then .autoclear else .latched
          clearOnLoss := (byteAt bs 0).getLsbD 2 }
    else none

/-- The 30 bytes of a Card record (R168). -/
def cardBytes (e : CardEntry) : List Byte :=
  flagsByte [e.enable, e.mode = .autoclear, e.clearOnLoss] :: intervalByte e.interval :: e.expectedCode ::
    byte e.windowOpen :: be16 (word16 e.windowClose) ++ packInputs e.pattern0 ++ packInputs e.pattern1 ++
    packInputs e.mask

/-! ### Relay records -/

/-- The flash window of a Relay record: absent, or its three fields within their ranges (R127, R168). -/
def readFlash (bs : List Byte) : Option (Option FlashWindow) :=
  if (byteAt bs 6).getLsbD 7 then
    let fconf := ((byteAt bs 6).extractLsb' 0 3).toNat
    if within 2 7 fconf && within 1 255 (natAt bs 7) && within 1 255 (natAt bs 8) then
      some (some { fmin := natAt bs 7, fmax := natAt bs 8, fconf := fconf })
    else none
  else some none

/-- The fields of a Relay record of a kind other than NONE (R127, R168). -/
def readRelayCommon (bs : List Byte) : Option RelayCommon :=
  let su := ((byteAt bs 4).extractLsb' 4 4).toNat
  let sd := ((byteAt bs 4).extractLsb' 0 4).toNat
  (index? 16 (natAt bs 1)).bind fun card =>
    (readFlash bs).bind fun flash =>
      (index? 8 (natAt bs 9)).bind fun k =>
        if within 1 15 su && within 1 15 sd then
          some { card := card, settleUp := su, settleDown := sd, flash := flash, flickerClass := k }
        else none

/-- A Relay record read from its 10 bytes (R125, R127, R168). -/
def readRelay (bs : List Byte) : Option RelayEntry :=
  if byteAt bs 0 = 0 then some .none
  else if byteAt bs 0 = 1 then
    (readRelayCommon bs).bind fun c =>
      (index? 64 (natAt bs 2)).bind fun f =>
        (index? 64 (natAt bs 3)).bind fun b =>
          if within 1 63 (natAt bs 5) then some (.paired f b (natAt bs 5) c) else none
  else if byteAt bs 0 = 2 then
    (readRelayCommon bs).bind fun c => (index? 64 (natAt bs 2)).map fun f => .frontOnly f c
  else if byteAt bs 0 = 3 then
    (readRelayCommon bs).bind fun c => (index? 64 (natAt bs 3)).map fun b => .backOnly b c
  else none

/-- The three flash bytes of a Relay record; 0 when the window is absent (R168). -/
def flashBytes : Option FlashWindow → List Byte
  | some w => [byte (128 + w.fconf), byte w.fmin, byte w.fmax]
  | none => [0, 0, 0]

/-- The 10 bytes of a Relay record with the given kind, bits and transit limit. -/
def relayBytesOf (kind front back limit : Nat) (c : RelayCommon) : List Byte :=
  [byte kind, byte c.card.val, byte front, byte back, byte (16 * c.settleUp + c.settleDown), byte limit] ++
    flashBytes c.flash ++ [byte c.flickerClass.val]

/-- The 10 bytes of a Relay record, absent fields 0 (R168). -/
def relayBytes : RelayEntry → List Byte
  | .none => List.replicate 10 0
  | .paired f b l c => relayBytesOf 1 f.val b.val l c
  | .frontOnly f c => relayBytesOf 2 f.val 0 0 c
  | .backOnly b c => relayBytesOf 3 0 b.val 0 c

/-! ### Class records -/

/-- A Class record read from its 5 bytes; one not loaded is stored with fields of 0 (R125, R127, R168). -/
def readClass (bs : List Byte) : Option ClassRecord :=
  if byteAt bs 0 = 0 then some { loaded := false, weight := 0, decay := 0, upper := 0, lower := 0 }
  else if byteAt bs 0 = 1 && within 1 64 (natAt bs 1) && within 0 15 (natAt bs 2) && within 1 255 (natAt bs 3) &&
      within 0 254 (natAt bs 4) then
    some { loaded := true, weight := natAt bs 1, decay := natAt bs 2, upper := natAt bs 3, lower := natAt bs 4 }
  else none

/-- The 5 bytes of a Class record (R168). -/
def classBytes (r : ClassRecord) : List Byte :=
  [flagByte r.loaded, byte r.weight, byte r.decay, byte r.upper, byte r.lower]

/-! ### Indication records -/

/-- The first `n` inputs of an Indication record, two bytes each from place 1, when each is a relay index. -/
def readInputs (bs : List Byte) (n : Nat) : Option (List RelayIdx) :=
  ((List.range n).map fun k => index? 768 (nat16At bs (1 + 2 * k))).foldr
    (fun x acc => x.bind fun r => acc.map fun rs => r :: rs) (some [])

/-- The transit policy of an Indication record; the transit code is tested under CODE alone (R127, R168). -/
def readPolicy (bs : List Byte) : Option TransitPolicy :=
  if (byteAt bs 0).getLsbD 2 then (index? 16 (natAt bs 11)).map .code else some .hold

/-- An Indication record read from its 12 bytes: undefined, or defined with its fields within their ranges (R125, R127,
R168). -/
def readIndication (bs : List Byte) : Option (Option IndicationEntry) :=
  if !(byteAt bs 0).getLsbD 0 then some none
  else
    let n := ((byteAt bs 0).extractLsb' 4 3).toNat
    if !within 1 4 n then none
    else
      (readInputs bs n).bind fun inputs =>
        (index? 32 (natAt bs 9)).bind fun pattern =>
          (index? 16 (natAt bs 10)).bind fun doubt =>
            (readPolicy bs).map fun policy =>
              some { inputs := inputs, pattern := pattern, doubt := doubt, policy := policy
                     report := (byteAt bs 0).getLsbD 1 }

/-- The transit code byte of a policy; 0 under HOLD, where it is absent. -/
def policyByte : TransitPolicy → Byte
  | .hold => 0
  | .code c => byte c.val

/-- The 12 bytes of an Indication record, absent fields 0 (R168). -/
def indicationBytes : Option IndicationEntry → List Byte
  | none => List.replicate 12 0
  | some e =>
    byte (1 + (if e.report then 2 else 0) + (if e.policy = .hold then 0 else 4) + 16 * e.inputs.length) ::
      (e.inputs.flatMap (fun r => be16 (word16 r.val)) ++ List.replicate (8 - 2 * e.inputs.length) 0) ++
      [byte e.pattern.val, byte e.doubt.val, policyByte e.policy]

/-! ### Pattern records -/

/-- A Pattern record read from its 82 bytes (R125, R127, R168). -/
def readPattern (bs : List Byte) : Option PatternRecord :=
  if byteAt bs 0 = 0 then some { loaded := false, codes := Vector.replicate 81 0 }
  else if byteAt bs 0 = 1 && (List.range 81).all (fun k => natAt bs (1 + k) < 16) then
    some { loaded := true
           codes := Vector.ofFn fun k => ⟨natAt bs (1 + k.val) % 16, Nat.mod_lt _ (by decide)⟩ }
  else none

/-- The 82 bytes of a Pattern record (R168). -/
def patternBytes (r : PatternRecord) : List Byte := flagByte r.loaded :: r.codes.toList.map fun c => byte c.val

/-! ### Any table -/

/-- A record of any table, in its stored form. -/
inductive TableRecord where
  | card (e : CardEntry)
  | relay (e : RelayEntry)
  | cls (r : ClassRecord)
  | indication (e : Option IndicationEntry)
  | pattern (r : PatternRecord)
  deriving DecidableEq, Repr

/-- A record of a table read from its bytes; none when a field lies outside its range (R126, R127). -/
def readRecord (t : TableCode) (bs : List Byte) : Option TableRecord :=
  match t with
  | .card => (readCard bs).map .card
  | .relay => (readRelay bs).map .relay
  | .cls => (readClass bs).map .cls
  | .indication => (readIndication bs).map .indication
  | .pattern => (readPattern bs).map .pattern

/-- The encoded bytes of a record (R168). -/
def TableRecord.bytes : TableRecord → List Byte
  | .card e => cardBytes e
  | .relay e => relayBytes e
  | .cls r => classBytes r
  | .indication e => indicationBytes e
  | .pattern r => patternBytes r

/-- The table a record belongs to. -/
def TableRecord.table : TableRecord → TableCode
  | .card _ => .card
  | .relay _ => .relay
  | .cls _ => .cls
  | .indication _ => .indication
  | .pattern _ => .pattern

/-- A record placed in a bank at an index of its table; an index beyond the table places nothing. -/
def Bank.place (b : Bank) (i : Nat) : TableRecord → Bank
  | .card e => if h : i < 16 then { b with cards := b.cards.set i e h } else b
  | .relay e => if h : i < 768 then { b with relays := b.relays.set i e h } else b
  | .cls r => if h : i < 8 then { b with classes := b.classes.set i r h } else b
  | .indication e => if h : i < 512 then { b with indications := b.indications.set i e h } else b
  | .pattern r => if h : i < 32 then { b with patterns := b.patterns.set i r h } else b

/-- The record at an index of a table, when the index lies in the table. -/
def Bank.record? (b : Bank) (t : TableCode) (i : Nat) : Option TableRecord :=
  match t with
  | .card => b.cards[i]?.map .card
  | .relay => b.relays[i]?.map .relay
  | .cls => b.classes[i]?.map .cls
  | .indication => b.indications[i]?.map .indication
  | .pattern => b.patterns[i]?.map .pattern

/-- `count` records of a table read one after another from their bytes, each with whether its fields lie within their
ranges. -/
def readRecords (t : TableCode) (count : Nat) (bs : List Byte) : List (Option TableRecord) :=
  (List.range count).map fun k => readRecord t ((bs.drop (k * t.recordSize)).take t.recordSize)

/-- The records of a span placed in a bank, the first at index `start`. -/
def Bank.placeAll (b : Bank) (start : Nat) : List TableRecord → Bank
  | [] => b
  | r :: rs => (b.place start r).placeAll (start + 1) rs

/-- The bytes of `count` records of a table from `start` on (R128). -/
def Bank.spanBytes (b : Bank) (t : TableCode) (start count : Nat) : List Byte :=
  (List.range count).flatMap fun k =>
    match b.record? t (start + k) with
    | some r => r.bytes
    | none => []

end Sys2Proof.Machine
end

