-- ==== Sys2Proof/Machine/Reader.lean ====
section
/-! DEFINITION. The Image Reader: the refresh timer (R113), IMAGE frames (R114, R116), REFRESH CONTROL (R117), SNAPSHOT and its
train (R118 to R122). -/

namespace Sys2Proof.Machine

/-! ### The refresh timer (R113) -/

/-- What an expiry makes of the regular block (R113). -/
def RegularBlock.atExpiry : RegularBlock → RegularBlock
  | .none => .due
  | .due => .overdue
  | .overdue => .overdue

/-- REFRESH_EXPIRY: the running timer, its expiry reached, acts on the regular block and runs on for one interval
(R113). -/
def execRefreshExpiry (s : State) : Result :=
  .next <|
    match s.reader.nextExpiry with
    | some e =>
      if reached s.time.counter e then
        s.setReader { s.reader with
          regular := s.reader.regular.atExpiry, nextExpiry := some (e + BitVec.ofNat 32 s.reader.interval) }
      else s
    | none => s

/-! ### IMAGE frames (R114, R116) -/

/-- The next block, from 15 back to 0. -/
def nextBlock (b : BlockIdx) : BlockIdx := b + 1

/-- The image entries that a frame finds of a block's 32 indications, in ascending index (R89, R112). -/
def State.blockEntries (s : State) (b : BlockIdx) : List ImageEntry :=
  (List.finRange 32).map fun k => s.shownIndication ⟨32 * b.val + k.val, by omega⟩

/-- 32 flags in four bytes (R165). -/
def bitmapBytes (fs : List Bool) : List Byte :=
  [flagsByte (fs.take 8), flagsByte ((fs.drop 8).take 8), flagsByte ((fs.drop 16).take 8), flagsByte (fs.drop 24)]

/-- The IMAGE payload of a block, read at its build: generation, start index, build time, defined bitmap, 32 codes
(R114, R167). -/
def State.imagePayload (s : State) (b : BlockIdx) : List Byte :=
  be16 s.tables.generation ++ be16 (word16 (32 * b.val)) ++ be32 s.time.counter ++
    bitmapBytes ((s.blockEntries b).map ImageEntry.defined) ++ (s.blockEntries b).map fun e => codeByte e.code

/-- The IMAGE frame of a block (R114, R142). -/
def State.imageFrame (s : State) (b : BlockIdx) : DeskFrame :=
  { destination := nodeByte broadcastNode, source := nodeByte s.link.ownNode, kind := 4, tag := byte b.val
    payload := s.imagePayload b }

/-! ### REFRESH CONTROL (R117) -/

/-- The clamped refresh interval (R117). -/
def clampInterval (n : Nat) : Nat := max 10 (min 2000 n)

/-- The Image Reader after REFRESH CONTROL with the given enable and interval, taken at time `t` (R117). -/
def ImageReader.control (r : ImageReader) (enable : Bool) (interval : Nat) (t : Time) : ImageReader :=
  if enable then
    { r with enable := true, interval := interval, nextExpiry := some (t + BitVec.ofNat 32 interval) }
  else { r with enable := false, interval := interval, nextExpiry := none, regular := .none }

/-- REFRESH CONTROL as the Image Reader takes it (R117). -/
def actRefreshControl (q : Request) (s : State) : State :=
  let enable := byteAt q.payload 1
  let interval := clampInterval (nat16At q.payload 2)
  if enable ≠ 0 ∧ enable ≠ 1 then answer q .field [] s
  else
    answer q .ok (enable :: be16 (word16 interval))
      (s.setReader (s.reader.control (enable = 1) interval s.time.counter))

/-- REFRESH_CONTROL (R117). -/
def execRefreshControl (s : State) : Result := .next (serve (hasCode refreshControlCode) actRefreshControl s)

/-! ### Item kinds and collections (R119) -/

/-- The item kind a byte names (R167). -/
def kindOfByte (b : Byte) : Option ItemKind :=
  if b = 1 then some .indication
  else if b = 2 then some .relay
  else if b = 3 then some .input
  else if b = 4 then some .proving
  else if b = 5 then some .card
  else if b = 6 then some .counters
  else none

/-- The item kind byte (R167). -/
def ItemKind.byte : ItemKind → Byte
  | .indication => 1
  | .relay => 2
  | .input => 3
  | .proving => 4
  | .card => 5
  | .counters => 6

/-- The size of a kind's collection (R119). -/
def ItemKind.size : ItemKind → Nat
  | .indication => 512
  | .relay => 768
  | .input => 64
  | .proving => 64
  | .card => 16
  | .counters => 232

/-- The items one frame holds at most (R119). -/
def ItemKind.perFrame : ItemKind → Nat
  | .indication => 128
  | .relay => 64
  | .input => 64
  | .proving => 64
  | .card => 16
  | .counters => 64

/-- Does the kind use the request's card number (R118)? -/
def ItemKind.usesCard : ItemKind → Bool
  | .input => true
  | .proving => true
  | _ => false

/-- The six lane counters, in the order of R119. -/
def LaneReceiver.counterList (l : LaneReceiver) : List Counter :=
  [l.goodFrames, l.crcErrors, l.lengthErrors, l.malformed, l.repeats, l.missing]

/-- The eight card counters, in the order of R119. -/
def CardCounters.toList (c : CardCounters) : List Counter :=
  [c.accepted, c.early, c.lateExpiries, c.mismatches, c.dirtyProving, c.flagDisagreements, c.queueDrops, c.stale]

/-- The eight link counters, in the order of R119. -/
def LinkCounters.toList (c : LinkCounters) : List Counter :=
  [c.upstreamCrc, c.downstreamCrc, c.unroutable, c.wrongKind, c.downwardDrops, c.forwardDrops, c.requestDrops,
   c.broadcastDrops]

/-- The COUNTERS collection: 96 lane counters, 128 card counters, 8 link counters (R119). -/
def State.counterList (s : State) : List Counter :=
  s.lanes.toList.flatMap LaneReceiver.counterList ++ s.cards.toList.flatMap (fun c => c.counters.toList) ++
    s.link.counters.toList

/-- The items of a collection, each as its bytes, as a frame built now finds them (R119, R121, R167). -/
def State.items (s : State) (kind : ItemKind) (card : CardIdx) : List (List Byte) :=
  match kind with
  | .indication => (List.finRange 512).map fun i => [codeByte (s.shownIndication i).code]
  | .relay =>
    (List.finRange 768).map fun r =>
      let x := s.shownRelay r
      [relayStatusByte x.status x.contact, byte x.flickerLevel]
  | .input =>
    (List.finRange 64).map fun b => [flagsByte [s.input.values[card].getLsbD b.val, s.input.known[card].getLsbD b.val]]
  | .proving => (List.finRange 64).map fun b => [flagByte ((s.cards[card]).errorMap.getLsbD b.val)]
  | .card => s.cards.toList.map fun c => [cardByte c.state c.proving]
  | .counters => s.counterList.map be16

/-! ### Trains (R120 to R122) -/

/-- The number of items in a train's next frame: as many as one frame holds, or as many as remain (R120). -/
def TrainWork.frameItems (w : TrainWork) : Nat := min w.kind.perFrame (w.start + w.count - w.next)

/-- Does the next frame carry the last item of the span (R120)? -/
def TrainWork.isLast (w : TrainWork) : Bool := w.start + w.count ≤ w.next + w.frameItems

/-- The two bytes a frame of a PROVING train adds: the named card's proving status and clean run (R119, R167). R167 gives
neither field a width. DESIGN CHOICE (log 13): one byte each, the clean run as its number. -/
def State.provingBytes (s : State) (w : TrainWork) : List Byte :=
  if w.kind = .proving then
    [Config.provingStatusByte ((s.cards[w.card]).proving = .fail), byte (s.cards[w.card]).cleanRun]
  else []

/-- A frame of a train: status, then item kind, first item, clamped count, generation, build time, final, the PROVING
bytes and the items (R120, R142, R167). -/
def State.trainFrame (s : State) (w : TrainWork) (status : AnswerStatus) (first clamped : BitVec 16) (final : Bool)
    (items : List Byte) : DeskFrame :=
  responseFrame s w.source w.tag snapshotCode status
    (w.kind.byte :: be16 first ++ be16 clamped ++ be16 s.tables.generation ++ be32 s.time.counter ++
      [flagByte final] ++ s.provingBytes w ++ items)

/-- The next frame of a RUNNING train, built now (R120, R121). -/
def State.nextTrainFrame (s : State) (w : TrainWork) : DeskFrame :=
  s.trainFrame w .ok (word16 w.next) (if w.next = w.start then word16 w.count else 0) w.isLast
    (((s.items w.kind w.card).drop w.next).take w.frameItems).flatten

/-- The train after its next frame has been built: none after the final frame (R120). -/
def TrainWork.advanced (w : TrainWork) : Train :=
  if w.isLast then .none else .running { w with next := w.next + w.frameItems }

/-- The final frame of an ABORTING train: status ABORTED and no items (R122, log 14). -/
def State.abortedFrame (s : State) (w : TrainWork) : DeskFrame :=
  s.trainFrame w .aborted (Config.abortedFirstItem w.next) (if w.next = w.start then word16 w.count else 0) true []

/-- Can a train's frame be built: has its previous frame left the Response Queue, is a place free, and is no swap in
progress (R120 to R122)? -/
def State.canBuildTrainFrame (s : State) : Bool :=
  !s.swapping && s.hasRoom && s.link.responses.all fun e => !e.train

/-- The train of the Image Reader replaced. -/
def setTrain (t : Train) (s : State) : State := s.setReader { s.reader with train := t }

/-- The next frame of a train built at this moment and placed by `place`; the train goes on or ends (R120, R121). -/
def sendTrainFrame (w : TrainWork) (place : ResponseEntry → State → State) (s : State) : State :=
  let s' := atBuild s
  setTrain w.advanced (place ⟨s'.nextTrainFrame w, true⟩ s')

/-- TRAIN_FRAME_BUILD: the next frame of a RUNNING train is built and placed (R120). -/
def execTrainFrameBuild (s : State) : Result :=
  .next <|
    match s.reader.train with
    | .running w =>
      if s.canBuildTrainFrame then sendTrainFrame w placeEntry s else s
    | _ => s

/-- ABORTED_FRAME_BUILD: the aborted frame is built and placed, and the train ends (R122). -/
def execAbortedFrameBuild (s : State) : Result :=
  .next <|
    match s.reader.train with
    | .aborting w => if s.canBuildTrainFrame then setTrain .none (placeEntry ⟨s.abortedFrame w, true⟩ s) else s
    | _ => s

/-! ### SNAPSHOT (R118) -/

/-- A SNAPSHOT accepted: the train runs, and its first frame takes the request's promise (R118, R120). A request whose
promise was cancelled has no place for its frames and begins no train (log 8). -/
def beginTrain (q : Request) (w : TrainWork) (s : State) : State :=
  if q.promised then sendTrainFrame w (answerEntry q) s else s

/-- SNAPSHOT as the Image Reader takes it: the first case of R118 that applies. -/
def actSnapshot (q : Request) (s : State) : State :=
  let start := nat16At q.payload 3
  let count := nat16At q.payload 5
  if s.reader.train ≠ .none then answer q .busy [] s
  else
    match kindOfByte (byteAt q.payload 1) with
    | none => answer q .field [] s
    | some kind =>
      if (kind.usesCard && 15 < natAt q.payload 2) || count = 0 then answer q .field [] s
      else if kind.size ≤ start then answer q .range [] s
      else
        beginTrain q
          { source := q.source, tag := q.tag, kind := kind
            card := ⟨natAt q.payload 2 % 16, Nat.mod_lt _ (by decide)⟩
            start := start, count := min count (kind.size - start), next := start } s

/-- SNAPSHOT (R118). -/
def execSnapshot (s : State) : Result := .next (serve (hasCode snapshotCode) actSnapshot s)

end Sys2Proof.Machine
end

