-- ==== Sys2Proof/Machine/Link.lean ====
section
/-! DEFINITION. The Desk Link Unit's ports: reception and routing (R143, R145 to R147), and the upstream arbiter with the own
source's frames (R104, R106, R114, R116, R148, R149). -/

namespace Sys2Proof.Machine

/-! ### Reception and routing (R143, R145 to R147, R150) -/

/-- The link counters changed. -/
def setLinkCounters (c : LinkCounters) (s : State) : State := s.setLink { s.link with counters := c }

/-- A bad frame is counted at its port and is a LINK_ERROR event (R143). -/
def badFrame (p : Port) (s : State) : State :=
  let c := s.link.counters
  announce [] [cLinkError] []
    (setLinkCounters
      (match p with
        | .upstream => { c with upstreamCrc := raise c.upstreamCrc }
        | .downstream => { c with downstreamCrc := raise c.downstreamCrc }) s)

/-- The capacity of the Downward Buffer and of the Forward Buffer (R146, R147). -/
def bufferCapacity : Nat := 4

/-- A frame offered to the Downward Buffer (R146). -/
def offerDownward (f : DeskFrame) (s : State) : State :=
  if s.link.downward.length < bufferCapacity then s.setLink { s.link with downward := s.link.downward ++ [f] }
  else setLinkCounters { s.link.counters with downwardDrops := raise s.link.counters.downwardDrops } s

/-- A frame offered to the Forward Buffer; the one offered to a full buffer is dropped, counted, and a
FORWARD_OVERFLOW event (R147). -/
def offerForward (f : DeskFrame) (s : State) : State :=
  if s.link.forward.length < bufferCapacity then s.setLink { s.link with forward := s.link.forward ++ [f] }
  else
    announce [] [cForwardOverflow] []
      (setLinkCounters { s.link.counters with forwardDrops := raise s.link.counters.forwardDrops } s)

/-- The request a frame carries. -/
def requestOf (f : DeskFrame) (broadcast promised : Bool) : Request :=
  { source := nodeOf f.source, tag := f.tag, payload := f.payload, broadcast := broadcast, promised := promised }

/-- A request addressed to the own node is taken with a promise when the Response Queue has room, and dropped and
counted otherwise (R150). -/
def consumeOwn (f : DeskFrame) (s : State) : State :=
  if s.hasRoom then takeRequest (requestOf f false true) (s.setLink { s.link with promises := s.link.promises + 1 })
  else setLinkCounters { s.link.counters with requestDrops := raise s.link.counters.requestDrops } s

/-- A broadcast request is consumed without a promise (R150). -/
def consumeBroadcast (f : DeskFrame) (s : State) : State := takeRequest (requestOf f true false) s

/-- Does a node lie within the downstream range (R144, R145)? -/
def inRange (range : Option (Node × Node)) (n : Node) : Bool :=
  match range with
  | some (first, last) => first ≤ n && n ≤ last
  | none => false

/-- The kind byte of a REQUEST (R167). -/
def requestKind : Byte := 1

/-- A good frame from the upstream port, routed by the first line of R145 that applies. -/
def routeUpstream (f : DeskFrame) (s : State) : State :=
  let d := nodeOf f.destination
  let c := s.link.counters
  if f.kind ≠ requestKind then setLinkCounters { c with wrongKind := raise c.wrongKind } s
  else if d = s.link.ownNode then consumeOwn f s
  else if d = broadcastNode then offerDownward f (consumeBroadcast f s)
  else if inRange s.link.range d then offerDownward f s
  else setLinkCounters { c with unroutable := raise c.unroutable } s

/-- UPSTREAM_FRAME_RECEIVED (R143, R145). -/
def execUpstreamFrameReceived (chars : List PortChar) (s : State) : Result :=
  .next <|
    match receive chars with
    | .good f => routeUpstream f s
    | .bad => badFrame .upstream s
    | _ => s

/-- DOWNSTREAM_FRAME_RECEIVED (R143, R147). -/
def execDownstreamFrameReceived (chars : List PortChar) (s : State) : Result :=
  .next <|
    match receive chars with
    | .good f => offerForward f s
    | .bad => badFrame .downstream s
    | _ => s

/-- DESK_RX_IDLE_TIMEOUT: a frame that has begun and is not whole is bad, and so is one within which the line has been idle
already; characters outside a frame are discarded uncounted (R143). -/
def execDeskRxIdleTimeout (port : Port) (chars : List PortChar) (s : State) : Result :=
  .next <|
    match receive chars with
    | .unfinished => badFrame port s
    | .bad => badFrame port s
    | .nothing => s
    | .overrun => s
    | .good _ => s

/-- DOWNSTREAM_TX_DONE: the transmitter, free once its frame is sent, takes the oldest frame of the Downward Buffer
(R146). -/
def execDownstreamTxDone (s : State) : Result :=
  .next <|
    match s.link.downward with
    | f :: rest => s.setLink { s.link with downward := rest, downstreamTx := some f }
    | [] => s.setLink { s.link with downstreamTx := none }

/-! ### The own source (R104, R106, R149) -/

/-- What the own source offers next (R149). -/
inductive OwnTurn where
  | urgentImage (b : BlockIdx)
  | regularImage
  | report
  deriving DecidableEq, Repr

/-- The first line of R149 that applies; none when the own source does not wait. -/
def State.ownTurn (s : State) : Option OwnTurn :=
  match s.reader.urgent with
  | some b => some (.urgentImage b)
  | none =>
    if s.reader.regular = .overdue then some .regularImage
    else if !s.report.records.isEmpty then some .report
    else if s.reader.regular = .due then some .regularImage
    else none

/-- The urgent sweep after the frame of block `b`: it ends after block 15 (R116). -/
def urgentAfter (b : BlockIdx) : Option BlockIdx := if b = 15 then none else some (nextBlock b)

/-- The records one REPORT frame takes, at most (R106). -/
def reportFrameRecords : Nat := 16

/-- The REPORT frame of the oldest records (R106, R142). -/
def State.reportFrame (s : State) : DeskFrame :=
  { destination := nodeByte broadcastNode, source := nodeByte s.link.ownNode, kind := 3
    tag := s.report.frameNumber, payload := reportPayload (s.report.records.take reportFrameRecords) }

/-- The Report Queue after a removal: its oldest records gone, the frame number raised, and REPORT_HIGH fallen when the
count is 191 or below (R102, R106). -/
def ReportQueue.removed (q : ReportQueue) : ReportQueue :=
  let rest := q.records.drop reportFrameRecords
  { q with records := rest, frameNumber := q.frameNumber + 1, high := q.high && 191 < rest.length }

/-- The resynchronisation: MARKER RESYNC offered, the urgent sweep started at block 0, RESYNC_NEEDED cleared (R104,
R115). -/
def resynchronise (s : State) : State :=
  let marked := (takeOffer s.time.valid { subject := .resync, value := .resync, time := s.time.counter } s.report).1
  (s.setReport { marked with resyncNeeded := false }).setReader { s.reader with urgent := some 0 }

/-- A removal: the records leave, REPORT_HIGH follows, and the queue resynchronises at the first removal that leaves
RESYNC_NEEDED set and the count at or below 64 (R102, R104, R106). -/
def removeReport (s : State) : State :=
  let s' := followLive [cReportHigh] (s.setReport s.report.removed)
  if s'.report.resyncNeeded && s'.report.records.length ≤ 64 then resynchronise s' else s'

/-- The frame the own source builds at a grant (R106, R114, R116). -/
def State.ownFrame (s : State) : OwnTurn → DeskFrame
  | .urgentImage b => s.imageFrame b
  | .regularImage => s.imageFrame s.reader.walker
  | .report => s.reportFrame

/-- The moment at which a grant's frame is built: an IMAGE frame finds a pass in flight where it stands, and a REPORT
frame finds it at least beyond the changes its records carry (R87, R89, log 9). -/
def OwnTurn.atBuild (turn : OwnTurn) (s : State) : State :=
  match turn with
  | .report => atRemoval (s.report.records.take reportFrameRecords) s
  | .urgentImage _ => Sys2Proof.Machine.atBuild s
  | .regularImage => Sys2Proof.Machine.atBuild s

/-- What a grant changes at the own source (R106, R114, R116). -/
def takeOwnTurn (turn : OwnTurn) (s : State) : State :=
  match turn with
  | .urgentImage b => s.setReader { s.reader with urgent := urgentAfter b }
  | .regularImage => s.setReader { s.reader with regular := .none, walker := nextBlock s.reader.walker }
  | .report => removeReport s

/-! ### The upstream arbiter (R148) -/

/-- A frame begins on the upstream port. -/
def beginUpstream (f : DeskFrame) (s : State) : State := s.setLink { s.link with upstreamTx := some f }

/-- The own source granted. -/
def grantOwn (turn : OwnTurn) (s : State) : State :=
  let s' := turn.atBuild s
  let s'' := takeOwnTurn turn s'
  beginUpstream (s'.ownFrame turn) (s''.setLink { s''.link with lastGranted := .own })

/-- The Forward Buffer granted: its oldest frame leaves it (R147). -/
def grantForward (f : DeskFrame) (rest : List DeskFrame) (s : State) : State :=
  beginUpstream f (s.setLink { s.link with forward := rest, lastGranted := .forward })

/-- The choice between the Forward Buffer and the own source: the one that waits, or of both the one not granted last
(R148). -/
def chooseBelow (s : State) : State :=
  match s.link.forward, s.ownTurn with
  | [], none => s
  | [], some turn => grantOwn turn s
  | f :: rest, none => grantForward f rest s
  | f :: rest, some turn => if s.link.lastGranted = .forward then grantOwn turn s else grantForward f rest s

/-- The arbiter's choice with the transmitter free: the Response Queue first (R148). -/
def chooseUpstream (s : State) : State :=
  match s.link.responses with
  | e :: rest => beginUpstream e.frame (s.setLink { s.link with responses := rest })
  | [] => chooseBelow s

/-- UPSTREAM_TX_DONE: the transmitter is free, and the arbiter chooses (R148). -/
def execUpstreamTxDone (s : State) : Result :=
  .next (chooseUpstream (s.setLink { s.link with upstreamTx := none }))

end Sys2Proof.Machine
end

