-- ==== Sys2Proof/Machine/Desk.lean ====
section
/-! DEFINITION. The Desk Link Unit's own requests: IDENTIFY (R153), SET CHAIN (R154), ABORT (R156), and RESTART, with every
block's restart reset (R1, R11, R15, R17, R38, R41, R56, R90, R109, R112, R137, R155, R161). -/

namespace Sys2Proof.Machine

/-! ### IDENTIFY -/

/-- The two bytes of a downstream range; FFh FFh when it is absent (R167). -/
def rangeBytes : Option (Node × Node) → List Byte
  | some (first, last) => [nodeByte first, nodeByte last]
  | none => [0xFF, 0xFF]

/-- The body of the IDENTIFY answer (R153, R167). -/
def State.identifyBody (s : State) : List Byte :=
  [byte Config.vendorCode] ++ be16 (word16 Config.partCode) ++ [byte Config.revision, nodeByte s.link.ownNode] ++
    rangeBytes s.link.range ++ be16 s.tables.generation ++ [flagByte s.time.valid]

/-- IDENTIFY as the Desk Link Unit takes it (R153). -/
def actIdentify (q : Request) (s : State) : State := answer q .ok s.identifyBody s

/-- IDENTIFY (R153). -/
def execIdentify (s : State) : Result := .next (serve (hasCode identifyCode) actIdentify s)

/-! ### SET CHAIN -/

/-- The range that a SET CHAIN's two bytes ask for: none for FFh FFh, a pair with own node < first ≤ last ≤ 62, and
nothing lawful otherwise (R144, R154). -/
def askedRange (own : Node) (first last : Byte) : Option (Option (Node × Node)) :=
  if first = 0xFF ∧ last = 0xFF then some none
  else if own.val < first.toNat ∧ first.toNat ≤ last.toNat ∧ last.toNat ≤ 62 then some (some (nodeOf first, nodeOf last))
  else none

/-- Does a waiting downward frame stay under a range: is it a broadcast, or within the range (R154)? -/
def stillRoutable (range : Option (Node × Node)) (f : DeskFrame) : Bool :=
  nodeOf f.destination = broadcastNode || inRange range (nodeOf f.destination)

/-- The downstream range set; the waiting downward frames that are no longer routable are removed and counted (R154). -/
def setRange (range : Option (Node × Node)) (s : State) : State :=
  let kept := s.link.downward.filter (stillRoutable range)
  let removed := s.link.downward.length - kept.length
  s.setLink { s.link with
    range := range, downward := kept
    counters := { s.link.counters with unroutable := raiseBy s.link.counters.unroutable removed } }

/-- SET CHAIN as the Desk Link Unit takes it (R154). -/
def actSetChain (q : Request) (s : State) : State :=
  match askedRange s.link.ownNode (byteAt q.payload 1) (byteAt q.payload 2) with
  | some range => answer q .ok (rangeBytes range) (setRange range s)
  | none => answer q .field [] s

/-- SET_CHAIN (R154). -/
def execSetChain (s : State) : Result := .next (serve (hasCode setChainCode) actSetChain s)

/-! ### ABORT -/

/-- Is the Image Reader's train RUNNING? -/
def State.trainRunning (s : State) : Bool :=
  match s.reader.train with
  | .running _ => true
  | _ => false

/-- Is the commit checker CHECKING? -/
def State.checkRunning (s : State) : Bool :=
  match s.tables.checker with
  | .checking _ _ => true
  | _ => false

/-- ABORT at the Image Reader: a RUNNING train becomes ABORTING (R122). -/
def abortTrain (s : State) : State :=
  match s.reader.train with
  | .running w => setTrain (.aborting w) s
  | _ => s

/-- ABORT at the Table Store: a check stops, its COMMIT is answered ABORTED, and the checker is IDLE (R136). -/
def abortCheck (s : State) : State :=
  match s.tables.checker with
  | .checking w _ => deferAnswer w .aborted [] (s.setTables { s.tables with checker := .idle })
  | _ => s

/-- ABORT as the Desk Link Unit takes it: both operations act, and the answer carries the train and check flags
(R156). R136 lets the COMMIT's ABORTED or this OK stand first in the Response Queue. DESIGN CHOICE (log 29): the OK takes
its promise's place in this step, and the ABORTED is placed later, by DEFERRED_ANSWER_PLACED. R122 likewise lets the
train's aborted frame or this OK stand first. DESIGN CHOICE (log 29): the aborted frame is placed later, by
ABORTED_FRAME_BUILD. -/
def actAbort (q : Request) (s : State) : State :=
  answer q .ok [flagsByte [s.trainRunning, s.checkRunning]] (abortCheck (abortTrain s))

/-- ABORT (R156). -/
def execAbort (s : State) : Result := .next (serve (hasCode abortCode) actAbort s)

/-! ### RESTART -/

/-- A Lane Receiver at RESTART: carrier flag kept, last accepted number absent, counters 0 (R1). -/
def LaneReceiver.restarted (l : LaneReceiver) : LaneReceiver := { LaneReceiver.powerOn with carrier := l.carrier }

/-- A card's context at RESTART (R38). -/
def restartedCard (e : CardEntry) (carrier : Bool) : CardContext :=
  { CardContext.powerOn with state := if e.enable then startState carrier else .off }

/-- An Indication Image entry at RESTART: a defined indication takes its doubt code (R90). -/
def restartedIndication (e : Option IndicationEntry) (t : Time) (x : ImageEntry) : ImageEntry :=
  match e with
  | some d => { x with code := some d.doubt, changeTime := t }
  | none => x

/-- The lanes, cards, queue, engine and Input Image at RESTART (R1, R11, R15, R17, R38). -/
def restartSamplePath (s : State) : State :=
  let cards := Vector.ofFn fun n : CardIdx => restartedCard s.tables.active.cards[n] s.lanes[n].carrier
  let lanes := Vector.ofFn fun n : CardIdx => s.lanes[n].restarted
  ((((s.setCards cards).setLanes lanes).setFrameQueue []).setEngine .powerOn).setInput .powerOn

/-- The relays, card events and indications at RESTART (R41, R56, R90). -/
def restartEvaluators (s : State) : State :=
  let image := Vector.ofFn fun i : IndicationIdx =>
    restartedIndication s.tables.active.indications[i] s.time.counter s.indications[i]
  ((s.setRelays (Vector.replicate 768 (.reset s.time.counter))).setEvaluator .powerOn).setIndications image

/-- The Report Queue, the Image Reader and the commit checker at RESTART (R109, R115, R123, R137). -/
def restartDeskSide (s : State) : State :=
  ((s.setReport (.afterReset s.time.counter s.time.valid)).setReader
    { s.reader with train := .none, urgent := some 0 }).setTables { s.tables with checker := .idle }

/-- The Desk Link Unit at RESTART: buffers and Response Queue emptied, promises cancelled, counters 0, the own source
granted last; node, range and transmitters kept (R155). The requests still waiting lose their promises (log 8). -/
def restartLink (s : State) : State :=
  s.setLink { s.link with
    forward := [], downward := [], responses := [], promises := 0, deferred := []
    requests := s.link.requests.map fun q => { q with promised := false }
    counters := .zero, lastGranted := .own }

/-- All conditions, in ascending number. -/
def allConditions : List ConditionIdx := List.finRange 11

/-- The Condition Unit at RESTART: latched flags cleared, live values as the sources stand, then each enabled
condition that is live latched, in ascending number (R157, R161). -/
def restartConditions (s : State) : State :=
  let s' := followLive allConditions
    (s.setConditions { s.conditions with latched := Vector.replicate 11 false })
  settle (riseAll (allConditions.filter fun n => s'.conditions.live[n]) s')

/-- Every block's restart reset. -/
def restartAll (s : State) : State :=
  restartConditions (restartLink (restartDeskSide (restartEvaluators (restartSamplePath s))))

/-- RESTART as the Desk Link Unit takes it: every block's reset, then its own answer in the emptied Response Queue
(R155). A RESTART whose promise an earlier RESTART cancelled is carried out and not answered (log 8). -/
def actRestart (q : Request) (s : State) : State :=
  let s' := restartAll s
  if q.promised then placeEntry ⟨responseFrame s' q.source q.tag restartCode .ok [], false⟩ s' else s'

/-- RESTART (R155). -/
def execRestart (s : State) : Result := .next (serve (hasCode restartCode) actRestart s)

end Sys2Proof.Machine
end

