-- ==== Sys2Proof/Machine/Lanes.lean ====
section
/-! DEFINITION. The Lane Receivers: carrier rise and fall (R2) and the end of a run of characters (R3 to R8). -/

namespace Sys2Proof.Machine

/-- A Lane Receiver's state written. -/
def putLane (n : CardIdx) (l : LaneReceiver) (s : State) : State := s.setLanes (s.lanes.set n l)

/-- An event of lane `n` on its way to the Card Supervisor, after those the lane has sent before. -/
def sendLane (n : CardIdx) (e : LaneEvent) (s : State) : State := s.setInbox (s.inbox.set n (s.inbox[n] ++ [e]))

/-- LANE_CARRIER_RISE: a clear carrier flag is raised, and a carrier-rise event sent (R2). -/
def execLaneCarrierRise (lane : CardIdx) (s : State) : Result :=
  .next <|
    if s.lanes[lane].carrier then s
    else sendLane lane .carrierRise (putLane lane { s.lanes[lane] with carrier := true } s)

/-- LANE_CARRIER_FALL: a set carrier flag is cleared, the last accepted sequence number made absent, and a carrier-fall
event sent (R2). -/
def execLaneCarrierFall (lane : CardIdx) (s : State) : Result :=
  .next <|
    if s.lanes[lane].carrier then
      sendLane lane .carrierFall (putLane lane { s.lanes[lane] with carrier := false, lastSequence := none } s)
    else s

/-- The number of frames missing between the last accepted sequence number and `seq`: (s − last − 1) modulo 256 (R6). -/
def missingFrames (last seq : Byte) : Nat := (seq - last - 1).toNat

/-- The receiver after an accepted frame: the sequence number kept, the missing frames and the good frame counted (R6,
R7). -/
def LaneReceiver.accept (l : LaneReceiver) (seq : Byte) : LaneReceiver :=
  { l with
    lastSequence := some seq
    missing :=
      match l.lastSequence with
      | some last => raiseBy l.missing (missingFrames last seq)
      | none => l.missing
    goodFrames := raise l.goodFrames }

/-- The value the counter had before its latest `k` changes (log 3). -/
def TimeBase.valueBefore (t : TimeBase) (k : Nat) : Time :=
  match (t.changes.take k).getLast? with
  | some c => c.before
  | none => t.counter

/-- The amount by which TIME SETs among the counter's latest `k` changes have moved it (R22, R164). -/
def TimeBase.shiftOver (t : TimeBase) (k : Nat) : Time := ((t.changes.take k).map TimeChange.shift).sum

/-- The stamp of a frame whose run ends now, the counter having changed `k` times since its last CRC character: the Time
Base at the end of that character (R7), and the amount by which TIME SETs have moved it since (R22). -/
def stamp (t : TimeBase) (k : Nat) (f : CardFrame) : GoodFrame :=
  { frame := f, arrival := t.valueBefore k, shift := t.shiftOver k }

/-- A frame that has passed R3 to R5 meets the sequence check: a repeat is counted and discarded; another frame is good,
and is handed to the Card Supervisor (R6, R7). -/
def sequenceCheck (lane : CardIdx) (changes : Nat) (f : CardFrame) (s : State) : State :=
  let l := s.lanes[lane]
  if l.lastSequence = some f.sequence then putLane lane { l with repeats := raise l.repeats } s
  else sendLane lane (.frame (stamp s.time changes f)) (putLane lane (l.accept f.sequence) s)

/-- CARD_FRAME_END: the checks of R3, R4, R5 and R6 in that order; the first that fails raises its counter (R7). -/
def execCardFrameEnd (lane : CardIdx) (run : List LineChar) (changes : Nat) (s : State) : Result :=
  let l := s.lanes[lane]
  .next <|
    match checkRun run with
    | .noRun => s
    | .lengthError => putLane lane { l with lengthErrors := raise l.lengthErrors } s
    | .crcError => putLane lane { l with crcErrors := raise l.crcErrors } s
    | .malformed => putLane lane { l with malformed := raise l.malformed } s
    | .passed f => sequenceCheck lane changes f s

end Sys2Proof.Machine
end

