-- ==== Sys2Proof/Machine/Power.lean ====
section
/-! DEFINITION. POWER_ON: every block takes its power-on state (R1, R11, R12, R15, R17, R19, R41, R91, R97, R108, R112, R124, R144 to
R148, R151, R152, R157, R163). -/

namespace Sys2Proof.Machine

/-- POWER_ON. The waiting commands and the count of free choices are the model's own and stay. -/
def execPowerOn (straps : BitVec 6) (s : State) : Result :=
  .next (((State.powerOn straps).setPending s.pending).setChoices s.choices)

end Sys2Proof.Machine
end

