-- ==== Sys2Proof/Machine/Supervisor.lean ====
section
/-! DEFINITION. The Card Supervisor: a good frame (R21 to R23, R28 to R35), the close expiry (R24), and the carrier changes
(R26, R27). -/

namespace Sys2Proof.Machine

/-! ### Proving (R29 to R32) -/

/-- The proving interval N as a number; 0 for off. -/
def ProvingInterval.period : ProvingInterval → Nat
  | .off => 0
  | .n4 => 4
  | .n8 => 8
  | .n16 => 16
  | .n32 => 32

/-- Is a frame with this sequence number expected to be a proving frame (R29)? -/
def CardEntry.expectsProving (e : CardEntry) (seq : Byte) : Bool :=
  e.interval != .off && seq.toNat % e.interval.period = 0

/-- The expected pattern of a proving frame: P0 when s div N is even, P1 when it is odd (R29). -/
def CardEntry.expectedPattern (e : CardEntry) (seq : Byte) : Inputs :=
  if seq.toNat / e.interval.period % 2 = 0 then e.pattern0 else e.pattern1

/-- The mismatch of a proving frame: the inputs inside the mask whose value differs from the expected pattern (R30). -/
def CardEntry.mismatch (e : CardEntry) (f : CardFrame) : Inputs :=
  (f.samples ^^^ e.expectedPattern f.sequence) &&& e.mask

/-- A clean proving frame: the clean run rises, saturating at 255; under AUTOCLEAR a run of exactly 8 clears the map and
the status (R30, R31). -/
def cleanFrame (e : CardEntry) (c : CardContext) : CardContext :=
  if e.mode = .autoclear ∧ c.cleanRun + 1 = 8 then { c with cleanRun := 8, errorMap := 0, proving := .ok }
  else { c with cleanRun := raiseTo 255 c.cleanRun }

/-- A dirty proving frame: its mismatch is marked, the clean run is 0 and the status FAIL (R30). -/
def dirtyFrame (mismatch : Inputs) (c : CardContext) : CardContext :=
  { c with
    errorMap := c.errorMap ||| mismatch, cleanRun := 0, proving := .fail
    counters := { c.counters with dirtyProving := raise c.counters.dirtyProving } }

/-- A proving flag disagreement: the whole mask is marked, the clean run is 0 and the status FAIL (R32). -/
def flagDisagreement (e : CardEntry) (c : CardContext) : CardContext :=
  { c with
    errorMap := c.errorMap ||| e.mask, cleanRun := 0, proving := .fail
    counters := { c.counters with flagDisagreements := raise c.counters.flagDisagreements } }

/-- The proving check of a supervision-accepted frame (R29 to R32). -/
def provingCheck (e : CardEntry) (f : CardFrame) (c : CardContext) : CardContext :=
  if f.proving ≠ e.expectsProving f.sequence then flagDisagreement e c
  else if f.proving then
    if e.mismatch f = 0 then cleanFrame e c else dirtyFrame (e.mismatch f) c
  else c

/-! ### The frame's way through the Supervisor (R21 to R23, R28) -/

/-- Entry into FAULTY: reference time absent, close timer stopped, runs 0; the proving state is kept (R21). -/
def enterFaulty (reason : CardFault) (c : CardContext) : CardContext := c.stopped (.faulty reason)

/-- A mismatched frame: counted, and the card FAULTY (R21). -/
def mismatched (reason : CardFault) (c : CardContext) : CardContext :=
  enterFaulty reason { c with counters := { c.counters with mismatches := raise c.counters.mismatches } }

/-- The arrival time of a frame as its window measures it: moved by the TIME SETs taken since the stamp (R22, R23). -/
def GoodFrame.measured (f : GoodFrame) : Time := f.arrival + f.shift

/-- Is the frame EARLY: does it arrive less than Wo after the reference time (R22)? -/
def isEarly (e : CardEntry) (f : GoodFrame) (c : CardContext) : Bool :=
  match c.window with
  | some w => span w.reference f.measured < e.windowOpen
  | none => false

/-- An EARLY frame: counted, the early run raised, and the card FAULTY when the run reaches 3 (R22). -/
def earlyFrame (c : CardContext) : CardContext :=
  let c' := { c with
    earlyRun := c.earlyRun + 1
    counters := { c.counters with early := raise c.counters.early } }
  if 3 ≤ c'.earlyRun then enterFaulty .early c' else c'

/-- The window that opens with a frame accepted at time `t`: t + Wo to t + Wc (R23). -/
def windowAt (e : CardEntry) (t : Time) : CardWindow :=
  { reference := t, openTime := t + BitVec.ofNat 32 e.windowOpen, closeTime := t + BitVec.ofNat 32 e.windowClose }

/-- The state a card enters or keeps by an accepted frame's card-fault flag. -/
def serviceState (cf : Bool) : CardState := if cf then .suspect else .inService

/-- The move of R23's table. -/
def acceptedMove (cf : Bool) (c : CardContext) : CardContext :=
  match c.state with
  | .late => { c with state := .waiting, readmissionRun := 1 }
  | .waiting =>
    if c.readmissionRun + 1 < 3 then { c with readmissionRun := c.readmissionRun + 1 }
    else { c with state := serviceState cf, readmissionRun := 0 }
  | .inService => { c with state := serviceState cf }
  | .suspect => { c with state := serviceState cf }
  | _ => c

/-- A supervision-accepted frame: early run 0, counted, the window reopened, the proving check, and the move (R22, R23,
R30). -/
def acceptedFrame (e : CardEntry) (f : GoodFrame) (c : CardContext) : CardContext :=
  acceptedMove f.frame.cardFault <| provingCheck e f.frame
    { c with
      earlyRun := 0
      window := some (windowAt e f.measured)
      counters := { c.counters with accepted := raise c.counters.accepted } }

/-- Is a supervision-accepted frame offered to the Card Frame Queue: is it neither a proving frame nor one with a flag
disagreement, and is its card now WAITING, IN_SERVICE or SUSPECT (R28)? -/
def fitForQueue (e : CardEntry) (f : CardFrame) (c : CardContext) : Bool :=
  !f.proving && !e.expectsProving f.sequence && (c.state = .waiting || c.state = .inService || c.state = .suspect)

/-- Does the Card Supervisor examine a frame of a card in this state? In OFF and FAULTY it discards the frame (R21). In
ABSENT R21 says that no frame comes; one that does is discarded (log 6). -/
def CardState.supervised : CardState → Bool
  | .waiting => true
  | .inService => true
  | .suspect => true
  | .late => true
  | _ => false

/-- What the Card Supervisor makes of a good frame of card `n`: the context it leaves, and whether it offers the frame
to the queue (R21 to R23, R28). -/
def judgeFrame (n : CardIdx) (e : CardEntry) (f : GoodFrame) (c : CardContext) : CardContext × Bool :=
  if !c.state.supervised then (c, false)
  else if f.frame.card ≠ n then (mismatched .lane c, false)
  else if f.frame.code ≠ e.expectedCode then (mismatched .code c, false)
  else if isEarly e f c then (earlyFrame c, false)
  else (acceptedFrame e f c, fitForQueue e f.frame (acceptedFrame e f c))

/-- The capacity of the Card Frame Queue (R9). -/
def frameQueueCapacity : Nat := 8

/-- An offer refused by the full queue is counted (R10). -/
def CardContext.countDrop (c : CardContext) : CardContext :=
  { c with counters := { c.counters with queueDrops := raise c.counters.queueDrops } }

/-- The queue entry of a frame (R9). -/
def GoodFrame.entry (n : CardIdx) (f : GoodFrame) : QueueEntry :=
  { lane := n, card := f.frame.card, samples := f.frame.samples, arrival := f.arrival }

/-- The Card Supervisor takes a good frame of card `n`: it applies every step to the context and the queue, then sends
its event and makes its record and conditions known (R10, R21, R28, R33 to R35). -/
def takeFrame (n : CardIdx) (f : GoodFrame) (s : State) : State :=
  let before := s.cards[n]
  let (after, offered) := judgeFrame n s.tables.active.cards[n] f before
  if offered && s.frameQueue.length < frameQueueCapacity then
    announceCard n f.arrival before [] ((putCard n after s).setFrameQueue (s.frameQueue ++ [f.entry n]))
  else if offered then announceCard n f.arrival before [cQueueDrop] (putCard n after.countDrop s)
  else announceCard n f.arrival before [] (putCard n after s)

/-! ### The steps -/

/-- The oldest waiting event of a card leaves the inbox. -/
def popInbox (n : CardIdx) (s : State) : State := s.setInbox (s.inbox.set n s.inbox[n].tail)

/-- SUPERVISOR_FRAME_TAKEN. A frame that arrives during a swap waits for its completion (R37). -/
def execSupervisorFrameTaken (card : CardIdx) (s : State) : Result :=
  .next <|
    if s.swapping then s
    else
      match s.inbox[card].head? with
      | some (.frame f) => takeFrame card f (popInbox card s)
      | _ => s

/-- Does the close timer run: is a window present in WAITING, IN_SERVICE or SUSPECT (R24)? -/
def CardState.timed : CardState → Bool
  | .waiting => true
  | .inService => true
  | .suspect => true
  | _ => false

/-- The context after a close expiry: counted, reference time absent, early run 0; IN_SERVICE and SUSPECT become LATE,
and WAITING loses its readmission run (R24). -/
def expired (c : CardContext) : CardContext :=
  { c with
    state := if c.state = .waiting then .waiting else .late
    window := none
    earlyRun := 0
    readmissionRun := if c.state = .waiting then 0 else c.readmissionRun
    counters := { c.counters with lateExpiries := raise c.counters.lateExpiries } }

/-- CLOSE_EXPIRY: at the close time, when the close timer still runs (R24). An expiry due during a swap is taken after
it (R37). -/
def execCloseExpiry (card : CardIdx) (s : State) : Result :=
  .next <|
    match s.cards[card].window with
    | some w =>
      if !s.swapping && s.cards[card].state.timed && reached s.time.counter w.closeTime then
        changeCard card w.closeTime (expired s.cards[card]) s
      else s
    | none => s

/-- The context after a carrier fall (R26). -/
def carrierLost (e : CardEntry) (c : CardContext) : CardContext :=
  let c' := if c.state.supervised then c.stopped .absent else c
  if e.clearOnLoss ∧ c.state ≠ .off then c'.clearProving.clearCounters else c'

/-- CARD_CARRIER_FALL (R26). -/
def execCardCarrierFall (card : CardIdx) (s : State) : Result :=
  .next <|
    if s.swapping then s
    else
      match s.inbox[card].head? with
      | some .carrierFall =>
        changeCard card s.time.counter (carrierLost s.tables.active.cards[card] s.cards[card]) (popInbox card s)
      | _ => s

/-- The context after a carrier rise: an ABSENT card becomes WAITING with no run and no reference time (R27). -/
def carrierFound (c : CardContext) : CardContext :=
  if c.state = .absent then { c with state := .waiting, readmissionRun := 0, window := none } else c

/-- CARD_CARRIER_RISE (R27). -/
def execCardCarrierRise (card : CardIdx) (s : State) : Result :=
  .next <|
    if s.swapping then s
    else
      match s.inbox[card].head? with
      | some .carrierRise => changeCard card s.time.counter (carrierFound s.cards[card]) (popInbox card s)
      | _ => s

end Sys2Proof.Machine
end

