-- ==== Sys2Proof/Machine/Tables.lean ====
section
/-! DEFINITION. The Table Store's requests: TABLE WRITE (R126, R127), TABLE READ (R128), COPY ACTIVE TO STAGING (R129) and
COMMIT (R130). -/

namespace Sys2Proof.Machine

/-- Is a commit in flight: is the checker CHECKING or SWAP_WAITING (R130)? -/
def State.commitInFlight (s : State) : Bool := s.tables.checker != .idle

/-- Staging replaced. -/
def setStaging (b : Bank) (s : State) : State := s.setTables { s.tables with staging := b }

/-- The place of the first record of a span that has a field outside its range. -/
def firstBad (rs : List (Option TableRecord)) : Option Nat := rs.findIdx? Option.isNone

/-- TABLE WRITE with a table, a start, a count and the bytes of its records: cases 3 to 6 of R126. -/
def writeSpan (q : Request) (t : TableCode) (start count : Nat) (records : List Byte) (s : State) : State :=
  let rs := readRecords t count records
  if records.length ≠ count * t.recordSize then answer q .length [] s
  else if t.records < start + count then answer q .range [] s
  else
    match firstBad rs with
    | some k => answer q .field (be16 (BitVec.ofNat 16 (start + k))) s
    | none => answer q .ok [] (setStaging (s.tables.staging.placeAll start (rs.filterMap id)) s)

/-- TABLE WRITE as the Table Store takes it: the first case of R126 that applies. -/
def actTableWrite (q : Request) (s : State) : State :=
  let start := nat16At q.payload 2
  let count := natAt q.payload 4
  if s.commitInFlight then answer q .busy [] s
  else
    match tableOfByte (byteAt q.payload 1) with
    | none => answer q .field (be16 (word16 start)) s
    | some t =>
      if count = 0 then answer q .field (be16 (word16 start)) s
      else writeSpan q t start count (q.payload.drop 5) s

/-- TABLE_WRITE (R126). -/
def execTableWrite (s : State) : Result := .next (serve (hasCode tableWriteCode) actTableWrite s)

/-- The bank a bank code names (R167). -/
def State.bankOfByte (s : State) (b : Byte) : Option Bank :=
  if b = 1 then some s.tables.active else if b = 2 then some s.tables.staging else none

/-- The clamped count of a TABLE READ: the smallest of the count asked for, the records to the table's end, and the
records one answer holds (R128). -/
def readCount (t : TableCode) (start count : Nat) : Nat := min count (min (t.records - start) t.perFrame)

/-- TABLE READ as the Table Store takes it (R128). R128 gives its answers FIELD and RANGE no order where both apply, as for a
count of 0 or an unknown bank with a start beyond the table. DESIGN CHOICE (log 33): FIELD. -/
def actTableRead (q : Request) (s : State) : State :=
  let start := nat16At q.payload 3
  let count := natAt q.payload 5
  match s.bankOfByte (byteAt q.payload 1), tableOfByte (byteAt q.payload 2) with
  | some b, some t =>
    if count = 0 then answer q .field [] s
    else if t.records ≤ start then answer q .range [] s
    else
      let n := readCount t start count
      answer q .ok (t.byte :: be16 (word16 start) ++ [byte n] ++ b.spanBytes t start n) s
  | _, _ => answer q .field [] s

/-- TABLE_READ (R128). -/
def execTableRead (s : State) : Result := .next (serve (hasCode tableReadCode) actTableRead s)

/-- COPY ACTIVE TO STAGING as the Table Store takes it (R129). -/
def actCopy (q : Request) (s : State) : State :=
  if s.commitInFlight then answer q .busy [] s else answer q .ok [] (setStaging s.tables.active s)

/-- COPY_ACTIVE_TO_STAGING (R129). -/
def execCopyActiveToStaging (s : State) : Result := .next (serve (hasCode copyCode) actCopy s)

/-- COMMIT as the Table Store takes it: in IDLE the check begins with its first test, and the promise is released; else
BUSY (R130, R151). -/
def actCommit (q : Request) (s : State) : State :=
  if s.commitInFlight then answer q .busy [] s
  else
    let s' := s.setTables
      { s.tables with checker := .checking { source := q.source, tag := q.tag, answered := q.promised } 0 }
    if q.promised then releasePromise s' else s'

/-- COMMIT (R130). -/
def execCommit (s : State) : Result := .next (serve (hasCode commitCode) actCommit s)

end Sys2Proof.Machine
end

