-- ==== Sys2Proof/Machine/Dispatch.lean ====
section
/-! DEFINITION. The dispatch: one arm for each command of the opcode table, in the table's order. -/

namespace Sys2Proof.Machine

def exec (i : Instr) (s : State) : Host.Outcome State Fault Refusal :=
  match i with
  | .powerOn straps => Sys2Proof.Machine.execPowerOn straps s
  | .laneCarrierRise lane => Sys2Proof.Machine.execLaneCarrierRise lane s
  | .laneCarrierFall lane => Sys2Proof.Machine.execLaneCarrierFall lane s
  | .cardFrameEnd lane run changes => Sys2Proof.Machine.execCardFrameEnd lane run changes s
  | .supervisorFrameTaken card => Sys2Proof.Machine.execSupervisorFrameTaken card s
  | .closeExpiry card => Sys2Proof.Machine.execCloseExpiry card s
  | .cardCarrierFall card => Sys2Proof.Machine.execCardCarrierFall card s
  | .cardCarrierRise card => Sys2Proof.Machine.execCardCarrierRise card s
  | .conversionStart => Sys2Proof.Machine.execConversionStart s
  | .conversionComplete => Sys2Proof.Machine.execConversionComplete s
  | .cardOutEvent => Sys2Proof.Machine.execCardOutEvent s
  | .knownInputsEvent => Sys2Proof.Machine.execKnownInputsEvent s
  | .commitSwapBegin => Sys2Proof.Machine.execCommitSwapBegin s
  | .commitSwapComplete => Sys2Proof.Machine.execCommitSwapComplete s
  | .checkPass => Sys2Proof.Machine.execCheckPass s
  | .checkRefused => Sys2Proof.Machine.execCheckRefused s
  | .deferredAnswerPlaced => Sys2Proof.Machine.execDeferredAnswerPlaced s
  | .upstreamTxDone => Sys2Proof.Machine.execUpstreamTxDone s
  | .refreshExpiry => Sys2Proof.Machine.execRefreshExpiry s
  | .trainFrameBuild => Sys2Proof.Machine.execTrainFrameBuild s
  | .abortedFrameBuild => Sys2Proof.Machine.execAbortedFrameBuild s
  | .upstreamFrameReceived chars => Sys2Proof.Machine.execUpstreamFrameReceived chars s
  | .deskRxIdleTimeout port chars => Sys2Proof.Machine.execDeskRxIdleTimeout port chars s
  | .downstreamFrameReceived chars => Sys2Proof.Machine.execDownstreamFrameReceived chars s
  | .downstreamTxDone => Sys2Proof.Machine.execDownstreamTxDone s
  | .identify => Sys2Proof.Machine.execIdentify s
  | .setChain => Sys2Proof.Machine.execSetChain s
  | .restart => Sys2Proof.Machine.execRestart s
  | .abort => Sys2Proof.Machine.execAbort s
  | .readmit => Sys2Proof.Machine.execReadmit s
  | .clearProving => Sys2Proof.Machine.execClearProving s
  | .clearCounters => Sys2Proof.Machine.execClearCounters s
  | .tableWrite => Sys2Proof.Machine.execTableWrite s
  | .tableRead => Sys2Proof.Machine.execTableRead s
  | .copyActiveToStaging => Sys2Proof.Machine.execCopyActiveToStaging s
  | .commit => Sys2Proof.Machine.execCommit s
  | .snapshot => Sys2Proof.Machine.execSnapshot s
  | .refreshControl => Sys2Proof.Machine.execRefreshControl s
  | .timeSet => Sys2Proof.Machine.execTimeSet s
  | .statusRead => Sys2Proof.Machine.execStatusRead s
  | .conditionEnable => Sys2Proof.Machine.execConditionEnable s
  | .conditionAck => Sys2Proof.Machine.execConditionAck s
  | .timeBaseMillisecond => Sys2Proof.Machine.execTimeBaseMillisecond s

end Sys2Proof.Machine
end

