-- ==== Sys2Proof/Safety.lean ====
section
/-! DEFINITION. What claims are stated in: the parts of State and which of them a step may change, and the laws of the
device, each a predicate on State that every step keeps. -/

namespace Sys2Proof.Machine

/-! ### Frames -/

/-- The parts of State, one for each field. -/
inductive Part where
  | time | lanes | inbox | cards | frameQueue | engine | input | relays | evaluator | indications | report | reader
  | tables | link | conditions | choices | pending
  deriving DecidableEq, Repr

/-- One part is the same in two states. -/
def Part.same (s t : State) : Part → Prop
  | .time => t.time = s.time
  | .lanes => t.lanes = s.lanes
  | .inbox => t.inbox = s.inbox
  | .cards => t.cards = s.cards
  | .frameQueue => t.frameQueue = s.frameQueue
  | .engine => t.engine = s.engine
  | .input => t.input = s.input
  | .relays => t.relays = s.relays
  | .evaluator => t.evaluator = s.evaluator
  | .indications => t.indications = s.indications
  | .report => t.report = s.report
  | .reader => t.reader = s.reader
  | .tables => t.tables = s.tables
  | .link => t.link = s.link
  | .conditions => t.conditions = s.conditions
  | .choices => t.choices = s.choices
  | .pending => t.pending = s.pending

/-- From `s` to `t` nothing changes but the parts listed. -/
def State.changesOnly (s t : State) (parts : List Part) : Prop := ∀ p : Part, p ∉ parts → p.same s t

/-- The parts that the making known of records and conditions may change. -/
def announceParts : List Part := [.report, .conditions, .choices]

/-- From `s` to `t` nothing of the Desk Link Unit changes but its requests, promises and Response Queue: what taking and
answering a request may change there. -/
def State.linkOtherwiseSame (s t : State) : Prop :=
  t.link.ownNode = s.link.ownNode ∧ t.link.range = s.link.range ∧ t.link.downward = s.link.downward ∧
    t.link.downstreamTx = s.link.downstreamTx ∧ t.link.forward = s.link.forward ∧
    t.link.upstreamTx = s.link.upstreamTx ∧ t.link.deferred = s.link.deferred ∧
    t.link.counters = s.link.counters ∧ t.link.lastGranted = s.link.lastGranted

/-- A promised request addressed to the own node stands alone at the Desk Link Unit, handed to its owner, with no swap in
progress and the promises counted. -/
structure State.Serves (s : State) (q : Request) : Prop where
  swap : s.swapping = false
  alone : s.link.requests = [q]
  direct : q.broadcast = false
  promised : q.promised = true
  counted : s.link.promises = 1

/-- `t` holds the answer to `q`: the request is gone, its promise has become the newest entry of the Response Queue, and
that entry is a RESPONSE frame from the own node to the request's source with its tag, its code, the status and the
body (R142, R151, R167). -/
structure State.Answered (s t : State) (q : Request) (status : Byte) (body : List Byte) : Prop where
  requests : t.link.requests = []
  promises : t.link.promises = 0
  responses : t.link.responses = s.link.responses ++
    [{ frame := { destination := nodeByte q.source, source := nodeByte s.link.ownNode, kind := 2, tag := q.tag
                  payload := q.code :: status :: body }, train := false }]

/-- The length of the payload, code byte included, that the table of R167 gives a request; for TABLE WRITE the least. -/
def requiredLength (code : Byte) : Option Nat :=
  if code ∈ [0x01#8, 0x03#8, 0x04#8, 0x22#8, 0x23#8, 0x41#8] then some 1
  else if code ∈ [0x02#8, 0x10#8, 0x42#8, 0x43#8] then some 3
  else if code = 0x31#8 then some 4
  else if code = 0x20#8 ∨ code = 0x40#8 then some 5
  else if code = 0x21#8 then some 6
  else if code = 0x30#8 then some 7
  else none

/-- The status byte with which a request addressed to the own node is answered before an owner takes it: UNKNOWN where it
has no code or an unknown one, LENGTH where its length is wrong, FIELD where it is a CARD CONTROL of an unknown action
(R150, R167; log 7). -/
def Request.turnedAway (q : Request) : Option Byte :=
  let code := byteAt q.payload 0
  if q.payload = [] then some 5
  else
    match requiredLength code with
    | none => some 5
    | some n =>
      if q.payload.length < n ∨ (code ≠ 0x20#8 ∧ n < q.payload.length) then some 4
      else if code = 0x10#8 ∧ byteAt q.payload 2 ∉ [1#8, 2#8, 3#8] then some 3
      else none

/-- Does a request go to its owner: a broadcast where it is a TIME SET of the right length, another where nothing turns it
away (R150)? -/
def Request.forOwner (q : Request) : Prop :=
  if q.broadcast then byteAt q.payload 0 = 0x40#8 ∧ q.payload.length = 5 else q.turnedAway = none

/-- The Desk Link Unit once it has handed on the requests of `done`, none of them its owner's, with `rest` still waiting:
each broadcast is dropped and counted; each of the others that holds a promise is answered, in order, its promise becoming
the entry (R150, R151). -/
def DeskLink.afterHandingOn (l : DeskLink) (done rest : List Request) : DeskLink :=
  let answered := done.filter fun q => !q.broadcast && q.promised
  { l with
    requests := rest
    promises := l.promises - answered.length
    responses := l.responses ++ answered.map fun q =>
      { frame := { destination := nodeByte q.source, source := nodeByte l.ownNode, kind := 2, tag := q.tag
                   payload := [byteAt q.payload 0, q.turnedAway.getD 0] }, train := false }
    counters := { l.counters with
      broadcastDrops := raiseBy l.counters.broadcastDrops (done.countP Request.broadcast) } }

/-! ### Records offered in a step (R96 to R99) -/

/-- The records that wait for a subject. -/
def State.recordsOf (s : State) (x : Subject) : List ChangeRecord := s.report.records.filter fun r => r.subject = x

/-- From `s` to `t` the Report Queue has taken one offer for the subject `x`, with room for it: the record that waits is
coalesced, or a new one waits (R98, R99). It had room where a record waited before or fewer than 256 wait after. -/
def State.Offered (s t : State) (x : Subject) (v : RecordValue) (time : Time) : Prop :=
  s.recordsOf x ≠ [] ∨ t.report.records.length < 256 →
    t.recordsOf x =
      if s.recordsOf x = [] then
        [{ subject := x, value := v, firstTime := time, lastTime := time, count := 1, timeValid := s.time.valid }]
      else
        (s.recordsOf x).map fun r =>
          { subject := x, value := v, firstTime := r.firstTime, lastTime := time, count := min 255 (r.count + 1)
            timeValid := if s.time.valid then r.timeValid else false }

/-- From `s` to `t` no record has been offered for the subject `x`. -/
def State.NotOffered (s t : State) (x : Subject) : Prop := t.recordsOf x = s.recordsOf x

/-! ### What finds a pass that may be in flight (R58, R87, R89, R121, R162, log 9) -/

/-- The Relay Runtime record of relay `r` where a pass in flight is found at `place`: the one after the pass where the place
lies beyond the relay, else the one before it; with no pass, the one that stands. -/
def State.relayAt (s : State) (place : Nat) (r : RelayIdx) : RelayRuntime :=
  match s.evaluator.pass with
  | some p => if r.val < place then s.relays[r] else p.relays[r]
  | none => s.relays[r]

/-- The image entry of indication `i` where a pass in flight is found at `place`: the indication pass follows the relay
pass, so its entries come after the 768 records. -/
def State.entryAt (s : State) (place : Nat) (i : IndicationIdx) : ImageEntry :=
  match s.evaluator.pass with
  | some p => if 768 + i.val < place then s.indications[i] else p.indications[i]
  | none => s.indications[i]

/-- From `s` to `t` a frame or a STATUS READ answer is built that finds a pass in flight at `place`, no less far than it was
found before; with no pass in flight the evaluators stay as they are. -/
def State.BuildsAt (s t : State) (place : Nat) : Prop :=
  match s.evaluator.pass with
  | some p =>
    p.place ≤ place ∧ t.evaluator = { s.evaluator with pass := some { p with place := place } } ∧
      t.choices = s.choices + 1
  | none => t.evaluator = s.evaluator ∧ t.choices = s.choices

/-- From `s` to `t` a pass in flight is found at `place`, or where it was found before if that is further; with no pass in
flight the evaluators stay as they are. -/
def State.FoundFrom (s t : State) (place : Nat) : Prop :=
  match s.evaluator.pass with
  | some p => t.evaluator = { s.evaluator with pass := some { p with place := max p.place place } }
  | none => t.evaluator = s.evaluator

/-- A place lies beyond what the pass made of a subject: beyond the relay whose fault class it changed, the indication
whose code it changed, and the first relay at fault where the pass began with none (R54, R87, R158). -/
def PassInFlight.Beyond (p : PassInFlight) (s : State) (place : Nat) : Subject → Prop
  | .relay r => faultClass (p.relays[r]).status ≠ faultClass (s.relays[r]).status → r.val < place
  | .indication i => (p.indications[i]).code ≠ (s.indications[i]).code → 768 + i.val < place
  | .condition n =>
    n = cRelayFault → (∀ r : RelayIdx, faultClass (p.relays[r]).status = .normal) →
      ∀ r : RelayIdx, faultClass (s.relays[r]).status ≠ .normal →
        (∀ r' : RelayIdx, r' < r → faultClass (s.relays[r']).status = .normal) → r.val < place
  | .card _ => True
  | .restarted => True
  | .resync => True

/-- From `s` to `t` records leave the Report Queue: a pass in flight is found at the least place, no less far than it was
found before, that lies beyond what it made of each of their subjects. -/
def State.RemovesAt (s t : State) (taken : List ChangeRecord) : Prop :=
  match s.evaluator.pass with
  | some p =>
    ∃ place, t.evaluator = { s.evaluator with pass := some { p with place := place } } ∧
      ∀ b, place ≤ b ↔ p.place ≤ b ∧ ∀ x ∈ taken, p.Beyond s b x.subject
  | none => t.evaluator = s.evaluator

/-! ### One card's step (R33 to R35) -/

/-- What the Card Supervisor sends the Relay Evaluator for a change of card `n` from `before` to `after` (R33, R34): one
card-out event when the card leaves IN_SERVICE; one known-inputs event when it stays there and its map changes. -/
def eventsOf (n : CardIdx) (time : Time) (before after : CardContext) : List CardEvent :=
  if before.state = .inService ∧ after.state ≠ .inService then [.cardOut n time]
  else if before.state = .inService ∧ before.errorMap ≠ after.errorMap then
    [.knownInputs n (after.errorMap &&& ~~~before.errorMap) (before.errorMap &&& ~~~after.errorMap) time]
  else []

/-- The known flags of a card's inputs (R33). -/
def flagsOf (c : CardContext) : Inputs := if c.state = .inService then ~~~c.errorMap else 0

/-- No work is in flight at the evaluators: no conversion with a relay pass, no swap and no card event (R56, log 31). -/
def State.EvaluatorsFree (s : State) : Prop :=
  (∀ q, s.engine.state ≠ .converting q true) ∧ s.swapping = false ∧ s.evaluator.events = []

/-- From `s` to `t` card `n` takes the context `after` at the given time, its waiting lane events become `rest` and the
Card Frame Queue becomes `queue`. Its known flags follow, and where they change a relay pass of the card that may be in
flight is past its relays (R40, log 9). Its event is sent; where no work is in flight it is in flight at once, and a pass
that was found in flight has ended (R56, log 31). Its CARD record is offered where its state, fault reason or proving
status changes and not otherwise; no other card, lane, value, relay or table changes. -/
structure State.CardStep (s t : State) (n : CardIdx) (time : Time) (rest : List LaneEvent) (queue : List QueueEntry)
    (after : CardContext) : Prop where
  card : t.cards[n] = after
  otherCards : ∀ m, m ≠ n → t.cards[m] = s.cards[m]
  inbox : t.inbox[n] = rest
  otherInboxes : ∀ m, m ≠ n → t.inbox[m] = s.inbox[m]
  queue : t.frameQueue = queue
  known : t.input.known[n] = flagsOf after
  otherKnown : ∀ m, m ≠ n → t.input.known[m] = s.input.known[m]
  values : t.input.values = s.input.values
  events : t.evaluator.events = s.evaluator.events ++ eventsOf n time s.cards[n] after
  inFlight : t.evaluator.inFlight = true ↔
    s.evaluator.inFlight = true ∨ (s.EvaluatorsFree ∧ eventsOf n time s.cards[n] after ≠ [])
  changed : t.evaluator.changed = s.evaluator.changed
  passEnds : s.EvaluatorsFree → eventsOf n time s.cards[n] after ≠ [] → t.evaluator.pass = none
  passStays : ¬(s.EvaluatorsFree ∧ eventsOf n time s.cards[n] after ≠ []) →
    t.evaluator.pass = s.evaluator.pass.map fun p =>
      if p.card = some n ∧ flagsOf s.cards[n] ≠ flagsOf after then { p with place := max p.place 768 } else p
  record : if (s.cards[n]).state = after.state ∧ (s.cards[n]).proving = after.proving then s.NotOffered t (.card n)
    else s.Offered t (.card n) (.card after.state after.proving) time
  frame : s.changesOnly t ([.inbox, .frameQueue, .cards, .input, .evaluator] ++ announceParts)

/-- A frame `f` of card `n` stands at the head of the card's waiting events, with `rest` behind it, and no swap is in
progress: the Card Supervisor can take it. -/
structure State.FrameWaits (s : State) (n : CardIdx) (f : GoodFrame) (rest : List LaneEvent) : Prop where
  swap : s.swapping = false
  head : s.inbox[n] = .frame f :: rest

/-- The time between a frame's arrival and a reference time, moved by the TIME SETs taken since its stamp (R22). -/
def GoodFrame.since (f : GoodFrame) (reference : Time) : Nat := (f.arrival + f.shift - reference).toNat

/-- The frame passes the identity check and the window test (R21, R22). -/
structure State.Accepts (s : State) (n : CardIdx) (f : GoodFrame) : Prop where
  state : (s.cards[n]).state = .waiting ∨ (s.cards[n]).state = .inService ∨ (s.cards[n]).state = .suspect ∨
    (s.cards[n]).state = .late
  card : f.frame.card = n
  code : f.frame.code = (s.tables.active.cards[n]).expectedCode
  window : ∀ w, (s.cards[n]).window = some w → (s.tables.active.cards[n]).windowOpen ≤ f.since w.reference

/-- Does R29 expect a proving frame at a sequence number? -/
def expectedAt (e : CardEntry) (seq : Byte) : Prop :=
  match e.interval with
  | .off => False
  | .n4 => seq.toNat % 4 = 0
  | .n8 => seq.toNat % 8 = 0
  | .n16 => seq.toNat % 16 = 0
  | .n32 => seq.toNat % 32 = 0

/-- The pattern R29 expects in a proving frame: P0 when s div N is even, P1 when it is odd. -/
def patternAt (e : CardEntry) (seq : Byte) : Inputs :=
  match e.interval with
  | .off => e.pattern0
  | .n4 => if seq.toNat / 4 % 2 = 0 then e.pattern0 else e.pattern1
  | .n8 => if seq.toNat / 8 % 2 = 0 then e.pattern0 else e.pattern1
  | .n16 => if seq.toNat / 16 % 2 = 0 then e.pattern0 else e.pattern1
  | .n32 => if seq.toNat / 32 % 2 = 0 then e.pattern0 else e.pattern1

/-! ### Relays over several samples -/

/-- The raw value that counts towards a candidate (R45). -/
def CandidateValue.raw : CandidateValue → Raw
  | .up => .up
  | .down => .down
  | .both => .both

/-- The contact state that a candidate settles to (R46 to R49). -/
def CandidateValue.contact : CandidateValue → Contact
  | .up => .steady .up
  | .down => .steady .down
  | .both => .contradictory .bothClosed

/-- A relay after samples of one raw value at the given times. -/
def samplesInARow (e : RelayEntry) (c : ClassRecord) (raw : Raw) (times : List Time) (r : RelayRuntime) : RelayRuntime :=
  times.foldl (fun r t => sampleRelay e c raw t r) r

/-- Is the step from one contact state to another an accepted change of a relay with the given prior steady (R50)? -/
def acceptedBetween (prior : Option Direction) (before after : Contact) : Prop :=
  match before, after with
  | .steady a, .steady b => a ≠ b
  | .transit, .steady b => prior ≠ some b
  | _, _ => False

/-- Is the step from one contact state to another a recovery (R49)? -/
def recoveryBetween (before after : Contact) : Prop :=
  match before, after with
  | .unproven _, .steady _ => True
  | .contradictory _, .steady _ => True
  | _, _ => False

/-! ### Card Frame Queue (R9) -/

/-- The Card Frame Queue holds at most 8 frames, each of the card that its lane is wired to. -/
structure State.FrameQueueLaw (s : State) : Prop where
  bound : s.frameQueue.length ≤ 8
  ownCard : ∀ e ∈ s.frameQueue, e.card = e.lane

/-! ### Desk Link Unit (R144 to R147, R150, R151) -/

/-- The bounds of the buffers and of the Response Queue, the promises as the promised requests that wait, a lawful own
node and range, and the routing law of R145 on the frames that wait to go down. -/
structure State.LinkLaw (s : State) : Prop where
  downward : s.link.downward.length ≤ 4
  forward : s.link.forward.length ≤ 4
  responses : s.link.responses.length + s.link.promises ≤ 4
  promises : s.link.promises = s.link.requests.countP Request.promised
  broadcasts : ∀ q ∈ s.link.requests, q.broadcast = true → q.promised = false
  ownNode : s.link.ownNode.val ≤ 62
  range : ∀ a b, s.link.range = some (a, b) → s.link.ownNode < a ∧ a ≤ b ∧ b.val ≤ 62
  routed : ∀ f ∈ s.link.downward, f.kind = 1 ∧ nodeOf f.destination ≠ s.link.ownNode ∧
    (nodeOf f.destination = broadcastNode ∨
      ∃ a b, s.link.range = some (a, b) ∧ a ≤ nodeOf f.destination ∧ nodeOf f.destination ≤ b)

/-! ### Report Queue (R96, R97, R102) -/

/-- At most 256 records, no two of one subject, each standing for 1 to 255 changes; REPORT_HIGH as the count's last
crossing left it. -/
structure State.ReportLaw (s : State) : Prop where
  bound : s.report.records.length ≤ 256
  distinct : (s.report.records.map ChangeRecord.subject).Nodup
  counts : ∀ r ∈ s.report.records, 1 ≤ r.count ∧ r.count ≤ 255
  above : 193 ≤ s.report.records.length → s.report.high = true
  below : s.report.records.length ≤ 191 → s.report.high = false

/-! ### Condition Unit (R157 to R161) -/

/-- Between steps the live value of every condition is as its source stands, a latched condition is enabled, an enabled
condition that is live is latched, and no offer waits. -/
structure State.ConditionsLaw (s : State) : Prop where
  live : ∀ n : ConditionIdx, s.conditions.live[n] = s.source n
  enabled : ∀ n : ConditionIdx, s.conditions.latched[n] = true → s.conditions.enables[n] = true
  held : ∀ n : ConditionIdx, s.conditions.enables[n] = true → s.conditions.live[n] = true → s.conditions.latched[n] = true
  settled : s.conditions.waiting = []

/-! ### Cards (R18, R19, R23, R30) -/

/-- What holds of one card under its entry. -/
structure CardLaw (e : CardEntry) (c : CardContext) : Prop where
  off : c.state = .off ↔ e.enable = false
  map : c.errorMap &&& ~~~e.mask = 0
  window : c.window.isSome = true → c.state = .waiting ∨ c.state = .inService ∨ c.state = .suspect
  times : ∀ w, c.window = some w →
    w.openTime = w.reference + BitVec.ofNat 32 e.windowOpen ∧ w.closeTime = w.reference + BitVec.ofNat 32 e.windowClose
  earlyRun : c.earlyRun ≤ 3
  readmission : c.readmissionRun ≤ 3
  readmitting : c.readmissionRun ≠ 0 → c.state = .waiting
  cleanRun : c.cleanRun ≤ 255

/-- Every card obeys its law, and an input's known flag is set where its card is IN_SERVICE and its map bit is clear
(R33). -/
structure State.CardsLaw (s : State) : Prop where
  cards : ∀ n : CardIdx, CardLaw s.tables.active.cards[n] s.cards[n]
  known : ∀ n : CardIdx, s.input.known[n] = if (s.cards[n]).state = .inService then ~~~(s.cards[n]).errorMap else 0

/-! ### Table Store (R16, R125, R127, R130, R135, R138) -/

/-- The ranges of a Card entry's numbers (R127). -/
def CardEntry.InRange (e : CardEntry) : Prop :=
  1 ≤ e.windowOpen ∧ e.windowOpen ≤ 250 ∧ 2 ≤ e.windowClose ∧ e.windowClose ≤ 1000

/-- The ranges of a flash window (R127). -/
def FlashWindow.InRange (w : FlashWindow) : Prop :=
  1 ≤ w.fmin ∧ w.fmin ≤ 255 ∧ 1 ≤ w.fmax ∧ w.fmax ≤ 255 ∧ 2 ≤ w.fconf ∧ w.fconf ≤ 7

/-- The ranges of the fields common to the kinds (R127). -/
def RelayCommon.InRange (c : RelayCommon) : Prop :=
  1 ≤ c.settleUp ∧ c.settleUp ≤ 15 ∧ 1 ≤ c.settleDown ∧ c.settleDown ≤ 15 ∧ ∀ w, c.flash = some w → w.InRange

/-- The ranges of a Relay entry (R127). -/
def RelayEntry.InRange : RelayEntry → Prop
  | .none => True
  | .paired _ _ limit c => 1 ≤ limit ∧ limit ≤ 63 ∧ c.InRange
  | .frontOnly _ c => c.InRange
  | .backOnly _ c => c.InRange

/-- The ranges of a loaded Class record, and the stored form of one not loaded (R125, R127). -/
def ClassRecord.InRange (r : ClassRecord) : Prop :=
  if r.loaded then 1 ≤ r.weight ∧ r.weight ≤ 64 ∧ r.decay ≤ 15 ∧ 1 ≤ r.upper ∧ r.upper ≤ 255 ∧ r.lower ≤ 254
  else r = .notLoaded

/-- The range of a defined Indication entry's number of inputs (R127); its types hold the other ranges. -/
def IndicationEntry.InRange (e : IndicationEntry) : Prop := 1 ≤ e.inputs.length ∧ e.inputs.length ≤ 4

/-- The stored form of a Pattern record that is not loaded (R125); its types hold the ranges. -/
def PatternRecord.InRange (r : PatternRecord) : Prop := r.loaded = true ∨ r = .notLoaded

/-- The ranges of a record of any table (R125, R127). -/
def TableRecord.InRange : TableRecord → Prop
  | .card e => e.InRange
  | .relay e => e.InRange
  | .cls r => r.InRange
  | .indication none => True
  | .indication (some e) => e.InRange
  | .pattern r => r.InRange

/-! ### The bytes of a table record (R125, R127, R168) -/

/-- The two-byte number at place `k`, more significant byte first. -/
def pairAt (bs : List Byte) (k : Nat) : Nat := 256 * natAt bs k + natAt bs (k + 1)

/-- Every field that the bytes of a table's record hold and its stored form keeps has one of the values that R127 allows it;
the fields stand where R168 places them. -/
def TableCode.FieldsHold (bs : List Byte) : TableCode → Prop
  | .card => natAt bs 1 ∈ [0, 4, 8, 16, 32] ∧ 1 ≤ natAt bs 3 ∧ natAt bs 3 ≤ 250 ∧ 2 ≤ pairAt bs 4 ∧ pairAt bs 4 ≤ 1000
  | .relay =>
    let kind := natAt bs 0
    kind ≤ 3 ∧
    (kind ≠ 0 → natAt bs 1 ≤ 15 ∧ 1 ≤ natAt bs 4 / 16 ∧ 1 ≤ natAt bs 4 % 16 ∧ natAt bs 9 ≤ 7 ∧
      (128 ≤ natAt bs 6 → 2 ≤ natAt bs 6 % 8 ∧ 1 ≤ natAt bs 7 ∧ 1 ≤ natAt bs 8)) ∧
    (kind = 1 ∨ kind = 2 → natAt bs 2 ≤ 63) ∧
    (kind = 1 ∨ kind = 3 → natAt bs 3 ≤ 63) ∧
    (kind = 1 → 1 ≤ natAt bs 5 ∧ natAt bs 5 ≤ 63)
  | .cls =>
    natAt bs 0 ≤ 1 ∧
    (natAt bs 0 = 1 → 1 ≤ natAt bs 1 ∧ natAt bs 1 ≤ 64 ∧ natAt bs 2 ≤ 15 ∧ 1 ≤ natAt bs 3 ∧ natAt bs 4 ≤ 254)
  | .indication =>
    let inputs := natAt bs 0 / 16 % 8
    natAt bs 0 % 2 = 1 →
      1 ≤ inputs ∧ inputs ≤ 4 ∧ (∀ k, k < inputs → pairAt bs (1 + 2 * k) ≤ 767) ∧ natAt bs 9 ≤ 31 ∧ natAt bs 10 ≤ 15 ∧
      (natAt bs 0 / 4 % 2 = 1 → natAt bs 11 ≤ 15)
  | .pattern => natAt bs 0 ≤ 1 ∧ (natAt bs 0 = 1 → ∀ k, k < 81 → natAt bs (1 + k) ≤ 15)

/-- The number by which a proving interval is written (R168). -/
def ProvingInterval.number : ProvingInterval → Nat
  | .off => 0
  | .n4 => 4
  | .n8 => 8
  | .n16 => 16
  | .n32 => 32

/-- Bytes hold each present field of a Card entry at its place (R168). -/
def CardEntry.StandsIn (e : CardEntry) (bs : List Byte) : Prop :=
  let inputs (place : Nat) (x : Inputs) : Prop :=
    ∀ n, n < 64 → x.getLsbD n = (byteAt bs (place + n / 8)).getLsbD (n % 8)
  e.enable = (byteAt bs 0).getLsbD 0 ∧ (e.mode = .autoclear ↔ (byteAt bs 0).getLsbD 1 = true) ∧
    e.clearOnLoss = (byteAt bs 0).getLsbD 2 ∧ e.interval.number = natAt bs 1 ∧ e.expectedCode = byteAt bs 2 ∧
    e.windowOpen = natAt bs 3 ∧ e.windowClose = pairAt bs 4 ∧ inputs 6 e.pattern0 ∧ inputs 14 e.pattern1 ∧
    inputs 22 e.mask

/-- Bytes hold the fields common to the kinds of a Relay entry, a flash window only where it is present (R168). -/
def RelayCommon.StandsIn (c : RelayCommon) (bs : List Byte) : Prop :=
  c.card.val = natAt bs 1 ∧ c.settleUp = natAt bs 4 / 16 ∧ c.settleDown = natAt bs 4 % 16 ∧
    c.flickerClass.val = natAt bs 9 ∧
    match c.flash with
    | none => natAt bs 6 < 128
    | some w => 128 ≤ natAt bs 6 ∧ w.fconf = natAt bs 6 % 8 ∧ w.fmin = natAt bs 7 ∧ w.fmax = natAt bs 8

/-- Bytes hold each present field of a Relay entry at its place (R168). -/
def RelayEntry.StandsIn (bs : List Byte) : RelayEntry → Prop
  | .none => natAt bs 0 = 0
  | .paired f b limit c =>
    natAt bs 0 = 1 ∧ f.val = natAt bs 2 ∧ b.val = natAt bs 3 ∧ limit = natAt bs 5 ∧ c.StandsIn bs
  | .frontOnly f c => natAt bs 0 = 2 ∧ f.val = natAt bs 2 ∧ c.StandsIn bs
  | .backOnly b c => natAt bs 0 = 3 ∧ b.val = natAt bs 3 ∧ c.StandsIn bs

/-- Bytes hold each present field of a Class record at its place (R168). -/
def ClassRecord.StandsIn (r : ClassRecord) (bs : List Byte) : Prop :=
  if r.loaded then
    natAt bs 0 = 1 ∧ r.weight = natAt bs 1 ∧ r.decay = natAt bs 2 ∧ r.upper = natAt bs 3 ∧ r.lower = natAt bs 4
  else natAt bs 0 = 0

/-- Bytes hold each present field of a defined Indication entry at its place (R168). -/
def IndicationEntry.StandsIn (e : IndicationEntry) (bs : List Byte) : Prop :=
  natAt bs 0 % 2 = 1 ∧ e.report = (byteAt bs 0).getLsbD 1 ∧ e.inputs.length = natAt bs 0 / 16 % 8 ∧
    (∀ (k : Nat) (r : RelayIdx), e.inputs[k]? = some r → r.val = pairAt bs (1 + 2 * k)) ∧
    e.pattern.val = natAt bs 9 ∧ e.doubt.val = natAt bs 10 ∧
    match e.policy with
    | .hold => (byteAt bs 0).getLsbD 2 = false
    | .code c => (byteAt bs 0).getLsbD 2 = true ∧ c.val = natAt bs 11

/-- Bytes hold each present field of a Pattern record at its place (R168). -/
def PatternRecord.StandsIn (r : PatternRecord) (bs : List Byte) : Prop :=
  if r.loaded then natAt bs 0 = 1 ∧ ∀ k : Fin 81, (r.codes[k]).val = natAt bs (1 + k.val) else natAt bs 0 = 0

/-- Bytes hold each field that is present in a record's stored form at its place, whatever stands in its reserved bits and
its absent fields (R125, R168). -/
def TableRecord.StandsIn (bs : List Byte) : TableRecord → Prop
  | .card e => e.StandsIn bs
  | .relay e => e.StandsIn bs
  | .cls r => r.StandsIn bs
  | .indication none => natAt bs 0 % 2 = 0
  | .indication (some e) => e.StandsIn bs
  | .pattern r => r.StandsIn bs

/-- Is bit `b` of byte `k` of a Relay entry of a kind other than NONE reserved, or of a flash window that is absent
(R125, R168)? -/
def RelayCommon.Spare (c : RelayCommon) (k b : Nat) : Prop :=
  (k = 6 ∧ 3 ≤ b ∧ b ≤ 6) ∨ (c.flash = none ∧ ((k = 6 ∧ b ≤ 2) ∨ k = 7 ∨ k = 8))

/-- Is bit `b` of byte `k` of a record's encoding reserved, or of a field that its stored form marks absent (R125, R168)? -/
def TableRecord.Spare (k b : Nat) : TableRecord → Prop
  | .card _ => k = 0 ∧ 3 ≤ b
  | .relay .none => 1 ≤ k
  | .relay (.paired _ _ _ c) => c.Spare k b
  | .relay (.frontOnly _ c) => k = 3 ∨ k = 5 ∨ c.Spare k b
  | .relay (.backOnly _ c) => k = 2 ∨ k = 5 ∨ c.Spare k b
  | .cls r => r.loaded = false ∧ 1 ≤ k
  | .indication none => 1 ≤ k ∨ 1 ≤ b
  | .indication (some e) =>
    (k = 0 ∧ (b = 3 ∨ b = 7)) ∨ (1 + 2 * e.inputs.length ≤ k ∧ k ≤ 8) ∨ (k = 11 ∧ e.policy = .hold)
  | .pattern r => r.loaded = false ∧ 1 ≤ k

/-- Every record of a bank but its Card entries has its fields within their ranges. -/
structure Bank.OthersInRange (b : Bank) : Prop where
  relays : ∀ r : RelayIdx, (b.relays[r]).InRange
  classes : ∀ k : ClassIdx, (b.classes[k]).InRange
  indications : ∀ i : IndicationIdx, ∀ e, b.indications[i] = some e → e.InRange
  patterns : ∀ p : PatternIdx, (b.patterns[p]).InRange

/-- Every record of a bank has its fields within their ranges. -/
def Bank.InRange (b : Bank) : Prop := (∀ c : CardIdx, (b.cards[c]).InRange) ∧ b.OthersInRange

/-- The Active bank is the empty bank or one that passed the whole check (R138); Staging holds what was written, or
empty Card entries; the bank a swap waits for passes the check; a swap is handed over by a passing check alone; and none waits behind one in
progress (R16). -/
structure State.TablesLaw (s : State) : Prop where
  active : s.tables.active = .empty ∨ (s.tables.active.passes = true ∧ s.tables.active.InRange)
  stagingCards : ∀ c : CardIdx, (s.tables.staging.cards[c]).InRange ∨ s.tables.staging.cards[c] = .empty
  staging : s.tables.staging.OthersInRange
  checking : ∀ w p, s.tables.checker = .checking w p → p = 0
  passed : ∀ w, s.tables.checker = .swapWaiting w → s.tables.staging.passes = true
  handed : s.engine.swapWaiting = true ∨ s.swapping = true → ∃ w, s.tables.checker = .swapWaiting w
  oneSwap : s.swapping = true → s.engine.swapWaiting = false

/-! ### The commit check (R131 to R134) -/

/-- The place of a record in the order of the check: 16 Card entries, 8 Class records, 768 Relay entries, 512 Indication
entries (R131). -/
def CheckItem.rank : CheckItem → Nat
  | .card c => c.val
  | .cls k => 16 + k.val
  | .relay r => 24 + r.val
  | .indication i => 792 + i.val

/-- The index of a record within its own table (R134). -/
def CheckItem.ownIndex : CheckItem → Nat
  | .card c => c.val
  | .cls k => k.val
  | .relay r => r.val
  | .indication i => i.val

/-- Does a Relay entry with the common fields `c` fail a test of R132? Its error kind is that of the first of the tests a to
e that fails. -/
def Bank.RelayFails (b : Bank) (r : RelayIdx) (c : RelayCommon) (kind : Byte) : Prop :=
  let cardDisabled := (b.cards[c.card]).enable = false
  let sameBit := ∃ x l k, b.relays[r] = .paired x x l k
  let inputShared := ∃ (q : RelayIdx) (d : RelayCommon), q < r ∧ (b.relays[q]).common = some d ∧ d.card = c.card ∧
    ∃ x ∈ (b.relays[r]).bits, x ∈ (b.relays[q]).bits
  let badFlash := ∃ w, c.flash = some w ∧ w.fmax < w.fmin
  let classNotLoaded := (b.classes[c.flickerClass]).loaded = false
  (kind = 3 ∧ cardDisabled) ∨
    (kind = 4 ∧ ¬cardDisabled ∧ sameBit) ∨
    (kind = 5 ∧ ¬cardDisabled ∧ ¬sameBit ∧ inputShared) ∨
    (kind = 6 ∧ ¬cardDisabled ∧ ¬sameBit ∧ ¬inputShared ∧ badFlash) ∨
    (kind = 7 ∧ ¬cardDisabled ∧ ¬sameBit ∧ ¬inputShared ∧ ¬badFlash ∧ classNotLoaded)

/-- Does a record fail the check with the error kind of the given number (R131 to R133, R167)? -/
def Bank.Fails (b : Bank) (it : CheckItem) (kind : Byte) : Prop :=
  match it with
  | .card c => kind = 1 ∧ (b.cards[c]).windowClose ≤ (b.cards[c]).windowOpen
  | .cls k => kind = 2 ∧ (b.classes[k]).loaded = true ∧ (b.classes[k]).upper ≤ (b.classes[k]).lower
  | .relay r => ∃ c, (b.relays[r]).common = some c ∧ b.RelayFails r c kind
  | .indication i => ∃ e, b.indications[i] = some e ∧
      let relayMissing := ∃ r ∈ e.inputs, b.relays[r] = .none
      (kind = 8 ∧ relayMissing) ∨ (kind = 9 ∧ ¬relayMissing ∧ (b.patterns[e.pattern]).loaded = false)

/-! ### Relays (R39, R41 to R43, R47, R52, R72) -/

/-- What holds of one relay under its entry and its Class record. -/
structure RelayLaw (e : RelayEntry) (c : ClassRecord) (r : RelayRuntime) : Prop where
  candidateLength : r.candidateLength ≤ 255
  noCandidate : r.candidate = none → r.candidateLength = 0
  transitLength : r.transitLength ≤ 63
  runLength : r.runLength ≤ 255
  flickerLevel : r.flickerLevel ≤ 255
  flashCount : r.flashCount ≤ 7
  status : r.status = deriveStatus r.contact r.overlay
  inTransit : r.contact = .transit → 1 ≤ r.transitLength ∧ r.transitLength ≤ e.transitLimit
  prior : ∀ d, r.contact = .steady d → r.priorSteady = some d
  aboveUpper : c.upper < r.flickerLevel → r.overlay = .flickering
  flickering : r.overlay = .flickering → c.lower < r.flickerLevel
  flashing : r.overlay = .flashing →
    ∃ w, e.flashWindow = some w ∧ w.fconf ≤ r.flashCount ∧ r.flickerLevel ≤ c.upper ∧ r.runLength ≤ w.fmax
  kindNone : e = .none → r = .reset r.statusTime
  oneContact : (∀ f b l k, e ≠ .paired f b l k) → r.contact ≠ .transit ∧ ∀ x, r.contact ≠ .contradictory x

/-- Every relay obeys its law under the Active bank. -/
def State.RelaysLaw (s : State) : Prop :=
  ∀ r : RelayIdx, RelayLaw s.tables.active.relays[r] (s.tables.active.classOf s.tables.active.relays[r]) s.relays[r]

/-- Is a contact state proven, that is, steady or in transit? Only such a state shows UP, DOWN, TRANSIT or FLASHING. -/
def Contact.proven : Contact → Bool
  | .steady _ => true
  | .transit => true
  | .contradictory _ => false
  | .unproven _ => false

/-- Does an event that waits at the Relay Evaluator report that the input at bit `b` of card `n` can no longer be used? -/
def CardEvent.takesAway (n : CardIdx) (b : Fin 64) : CardEvent → Bool
  | .cardOut c _ => c = n
  | .knownInputs c fallen _ _ => c = n && fallen.getLsbD b.val

/-- A relay in a proven contact state has every input it names known, but for inputs that a waiting event takes away
(R52). -/
def State.KnownLaw (s : State) : Prop :=
  ∀ (r : RelayIdx) (c : RelayCommon), (s.tables.active.relays[r]).common = some c → (s.relays[r]).contact.proven = true →
    ∀ b ∈ (s.tables.active.relays[r]).bits,
      (s.input.known[c.card]).getLsbD b.val = true ∨ s.evaluator.events.any (CardEvent.takesAway c.card b) = true

/-- A card event in flight stands among the events sent, and no conversion with a relay pass and no swap is in flight
beside it (R12, R56; the flag is the model's choice of log 31). -/
def State.EvaluatorLaw (s : State) : Prop :=
  s.evaluator.inFlight = true →
    s.evaluator.events ≠ [] ∧ (∀ q, s.engine.state ≠ .converting q true) ∧ s.swapping = false

/-- Every relay of a card that is not IN_SERVICE is UNPROVEN, but where a card-out event of the card waits (R56). -/
def State.OutOfServiceLaw (s : State) : Prop :=
  ∀ (r : RelayIdx) (c : RelayCommon), (s.tables.active.relays[r]).common = some c →
    (s.cards[c.card]).state ≠ .inService →
      (s.relays[r]).status = .unproven ∨ ∃ t, CardEvent.cardOut c.card t ∈ s.evaluator.events

/-! ### Indications (R77, R79, R81) -/

/-- The image follows the Active bank: the defined flag is the entry's, a code stands exactly where it is set, and an
indication with an input in doubt shows its doubt code; the changed set is empty between steps. -/
structure State.IndicationsLaw (s : State) : Prop where
  defined : ∀ i : IndicationIdx, (s.indications[i]).defined = (s.tables.active.indications[i]).isSome
  coded : ∀ i : IndicationIdx, (s.indications[i]).code.isSome = (s.indications[i]).defined
  doubt : ∀ (i : IndicationIdx) (e : IndicationEntry), s.tables.active.indications[i] = some e →
    (∃ r ∈ e.inputs, (s.relays[r]).status = .unproven ∨ (s.relays[r]).status = .contradictory ∨
      (s.relays[r]).status = .flickering) → (s.indications[i]).code = some e.doubt
  changed : s.evaluator.changed = []

/-! ### Image Reader (R112, R117, R118, R120) -/

/-- A train's next item lies in its span, and its span in the collection. -/
def TrainWork.InSpan (w : TrainWork) : Prop :=
  w.start ≤ w.next ∧ w.next < w.start + w.count ∧ w.start + w.count ≤ w.kind.size

/-- The refresh interval is within its bounds, the timer runs exactly while the refresh is enabled, no regular block
waits while it is disabled, and a train in flight stands within its span. -/
structure State.ReaderLaw (s : State) : Prop where
  interval : 10 ≤ s.reader.interval ∧ s.reader.interval ≤ 2000
  timer : s.reader.nextExpiry.isSome = s.reader.enable
  stopped : s.reader.enable = false → s.reader.regular = .none
  running : ∀ w, s.reader.train = .running w → w.InSpan
  aborting : ∀ w, s.reader.train = .aborting w → w.InSpan

end Sys2Proof.Machine
end

