-- ==== Sys2Proof/Certificates/Slice0/Obligations.lean ====
section
/-! DEFINITION. The statements for the provers. -/

open Sys2Proof Sys2Proof.Machine

/-! ### The machine as a whole -/

/-- A step runs the command at the front of the queue on the state with the queue's rest. With an empty queue the block
idles: that part is the model's choice (log 5). -/
def Obligations.StepRunsTheFrontCommand : Prop :=
  (∀ (c : Instr) (rest : List Instr) (s : State), s.pending = c :: rest → step s = exec c (s.setPending rest)) ∧
    ∀ s : State, s.pending = [] → step s = .next s

/-- Every command answers a next state from every state, and leaves the queue of waiting commands as it is. That a command
whose condition does not hold answers a next state too is the model's choice (log 1), and so is that POWER_ON and RESTART
leave the queue (log 20); the spec's sentence on steps says only that each is whole. -/
def Obligations.EveryCommandCompletesAndLeavesTheQueue : Prop :=
  ∀ (c : Instr) (s : State), ∃ t, exec c s = .next t ∧ t.pending = s.pending

/-- POWER_ON from any state: every block takes its power-on state. That no lane event waits is the model's reading
(log 17). -/
def Obligations.PowerOnSetsEveryBlock : Prop :=
  ∀ (straps : BitVec 6) (s : State), ∃ t, exec (.powerOn straps) s = .next t ∧
    t.time.counter = 0 ∧ t.time.valid = false ∧
    (∀ n : CardIdx, t.lanes[n] =
      { carrier := false, lastSequence := none, goodFrames := 0, crcErrors := 0, lengthErrors := 0, malformed := 0
        repeats := 0, missing := 0 } ∧ t.inbox[n] = []) ∧
    (∀ n : CardIdx, t.cards[n] =
      { state := .off, window := none, earlyRun := 0, readmissionRun := 0, errorMap := 0, proving := .ok, cleanRun := 0
        counters := { accepted := 0, early := 0, lateExpiries := 0, mismatches := 0, dirtyProving := 0
                      flagDisagreements := 0, queueDrops := 0, stale := 0 } }) ∧
    t.frameQueue = [] ∧ t.engine = { state := .idle, swapWaiting := false } ∧
    (∀ n : CardIdx, t.input.values[n] = 0 ∧ t.input.known[n] = 0) ∧
    (∀ r : RelayIdx, t.relays[r] =
      { contact := .unproven .newEntry, overlay := .none, candidate := none, candidateLength := 0, candidateTime := 0
        transitLength := 0, priorSteady := none, runLength := 0, flickerLevel := 0, flashCount := 0
        status := .unproven, statusTime := 0 }) ∧
    t.evaluator = { events := [], inFlight := false, changed := [], pass := none } ∧
    (∀ i : IndicationIdx, t.indications[i] = { defined := false, code := none, changeTime := 0 } ∧
      t.tables.active.indications[i] = none) ∧
    t.report =
      { records := [{ subject := .restarted, value := .restarted, firstTime := 0, lastTime := 0, count := 1
                      timeValid := false }]
        resyncNeeded := false, refused := 0, high := false, frameNumber := 0 } ∧
    t.reader =
      { enable := true, interval := 100, nextExpiry := some 100, walker := 0, regular := .none, urgent := none
        train := .none } ∧
    t.tables.active = .empty ∧ t.tables.staging = .empty ∧ t.tables.generation = 0 ∧ t.tables.checker = .idle ∧
    t.link.ownNode.val = (if straps = 63 then 62 else straps.toNat) ∧ t.link.range = none ∧ t.link.downward = [] ∧
    t.link.downstreamTx = none ∧ t.link.forward = [] ∧ t.link.upstreamTx = none ∧ t.link.responses = [] ∧
    t.link.promises = 0 ∧ t.link.requests = [] ∧ t.link.deferred = [] ∧ t.link.lastGranted = .own ∧
    t.link.counters = { upstreamCrc := 0, downstreamCrc := 0, unroutable := 0, wrongKind := 0, downwardDrops := 0
                        forwardDrops := 0, requestDrops := 0, broadcastDrops := 0 } ∧
    (∀ n : ConditionIdx, t.conditions.live[n] = decide (n = cTimeInvalid) ∧ t.conditions.enables[n] = false ∧
      t.conditions.latched[n] = false)

/-- The state after reset meets every law of the device. -/
def Obligations.ResetMeetsEveryLaw : Prop :=
  State.reset.FrameQueueLaw ∧ State.reset.LinkLaw ∧ State.reset.ReportLaw ∧ State.reset.ConditionsLaw ∧
    State.reset.CardsLaw ∧ State.reset.TablesLaw ∧ State.reset.RelaysLaw ∧ State.reset.KnownLaw ∧
    State.reset.OutOfServiceLaw ∧ State.reset.IndicationsLaw ∧ State.reset.ReaderLaw ∧
    State.reset.EvaluatorLaw

/-! ### Card lanes -/

/-- A carrier rise and a carrier fall change the carrier flag, and the fall makes the last accepted sequence number
absent; each sends its event to the Card Supervisor. On a flag that already stands so, nothing happens. -/
def Obligations.CarrierChangesReachTheSupervisor : Prop :=
  ∀ (n : CardIdx) (s : State),
    (s.lanes[n].carrier = false →
      exec (.laneCarrierFall n) s = .next s ∧
      ∃ t, exec (.laneCarrierRise n) s = .next t ∧ t.lanes[n] = { s.lanes[n] with carrier := true } ∧
        t.inbox[n] = s.inbox[n] ++ [.carrierRise] ∧
        (∀ m, m ≠ n → t.lanes[m] = s.lanes[m] ∧ t.inbox[m] = s.inbox[m]) ∧ s.changesOnly t [.lanes, .inbox]) ∧
    (s.lanes[n].carrier = true →
      exec (.laneCarrierRise n) s = .next s ∧
      ∃ t, exec (.laneCarrierFall n) s = .next t ∧
        t.lanes[n] = { s.lanes[n] with carrier := false, lastSequence := none } ∧
        t.inbox[n] = s.inbox[n] ++ [.carrierFall] ∧
        (∀ m, m ≠ n → t.lanes[m] = s.lanes[m] ∧ t.inbox[m] = s.inbox[m]) ∧ s.changesOnly t [.lanes, .inbox])

/-- A run that fails the length check, else the CRC check, else the reserved-bit check raises that check's counter of its
lane by 1, saturating at 65535, and changes nothing else. -/
def Obligations.BadLaneRunIsCountedOnce : Prop :=
  ∀ (n : CardIdx) (d : LineChar) (rest : List LineChar) (changes : Nat) (s : State),
    let body := rest.map LineChar.byte
    let formed := d.byte = 0x7E#8 ∧ d.stop = true ∧ (∀ c ∈ rest, c.stop = true) ∧ rest.length = 13
    let sound := crc16 (body.take 11) = ofBe16 (byteAt body 11) (byteAt body 12)
    let l := s.lanes[n]
    let up (c : Counter) : Counter := if c = 65535#16 then c else c + 1
    (¬formed → exec (.cardFrameEnd n (d :: rest) changes) s =
      .next (s.setLanes (s.lanes.set n { l with lengthErrors := up l.lengthErrors }))) ∧
    (formed → ¬sound → exec (.cardFrameEnd n (d :: rest) changes) s =
      .next (s.setLanes (s.lanes.set n { l with crcErrors := up l.crcErrors }))) ∧
    (formed → sound → ((byteAt body 0).getLsbD 6 = true ∨ (byteAt body 0).getLsbD 7 = true) →
      exec (.cardFrameEnd n (d :: rest) changes) s =
        .next (s.setLanes (s.lanes.set n { l with malformed := up l.malformed })))

/-- A frame whose sequence number is the last accepted one is counted as a repeat and nothing else; any other good frame
is counted, takes its number as the last accepted one, adds the frames missing before it, and is handed to the Card
Supervisor with the Time Base value at the end of its last character as its arrival time: the counter's value before its
latest `k` changes, where `k` of them have come since (log 3; of fewer kept changes, the oldest), with the amount by which TIME SETs among them moved it. -/
def Obligations.GoodFrameIsHandedOnAndRepeatIsNot : Prop :=
  ∀ (n : CardIdx) (f : CardFrame) (k : Nat) (s : State),
    let l := s.lanes[n]
    (l.lastSequence = some f.sequence →
      exec (.cardFrameEnd n (encodeCardFrame f) k) s =
        .next (s.setLanes (s.lanes.set n { l with repeats := raise l.repeats }))) ∧
    (l.lastSequence ≠ some f.sequence →
      ∃ t, exec (.cardFrameEnd n (encodeCardFrame f) k) s = .next t ∧
        (∃ missing, t.lanes[n] =
            { l with lastSequence := some f.sequence, goodFrames := raise l.goodFrames, missing := missing } ∧
          missing.toNat = match l.lastSequence with
            | none => l.missing.toNat
            | some last => min 65535 (l.missing.toNat + (f.sequence.toNat + 255 - last.toNat) % 256)) ∧
        (∃ g : GoodFrame, t.inbox[n] = s.inbox[n] ++ [.frame g] ∧ g.frame = f ∧
          (k = 0 ∨ s.time.changes = [] → g.arrival = s.time.counter) ∧
          (∀ c, k ≠ 0 → s.time.changes[min k s.time.changes.length - 1]? = some c → g.arrival = c.before) ∧
          g.shift = ((s.time.changes.take k).map TimeChange.shift).sum) ∧
        (∀ m, m ≠ n → t.lanes[m] = s.lanes[m] ∧ t.inbox[m] = s.inbox[m]) ∧ s.changesOnly t [.lanes, .inbox])

/-- A card frame read back from the run of characters that encodes it is that frame, for every value of every field. -/
def Obligations.CardFrameRoundTrip : Prop := ∀ f : CardFrame, checkRun (encodeCardFrame f) = .passed f

/-! ### Card supervision -/

/-- A frame that does not pass: of a card that is OFF or FAULTY (or ABSENT: log 6), discarded with nothing changed; of
the wrong card or code, counted, and the card FAULTY with reason LANE or CODE; EARLY, counted, and the card FAULTY with
reason EARLY at the third in a row. The card record carries the stamp as it was taken (log 11). -/
def Obligations.FrameThatDoesNotPass : Prop :=
  ∀ (s : State) (n : CardIdx) (f : GoodFrame) (rest : List LaneEvent),
    s.ConditionsLaw → s.CardsLaw → s.FrameWaits n f rest →
    let e := s.tables.active.cards[n]
    let c := s.cards[n]
    let supervised := c.state = .waiting ∨ c.state = .inService ∨ c.state = .suspect ∨ c.state = .late
    (¬supervised → exec (.supervisorFrameTaken n) s = .next (s.setInbox (s.inbox.set n rest))) ∧
    (supervised → (f.frame.card ≠ n ∨ f.frame.code ≠ e.expectedCode) →
      ∃ t, exec (.supervisorFrameTaken n) s = .next t ∧
        s.CardStep t n f.arrival rest s.frameQueue
          { c with
            state := .faulty (if f.frame.card ≠ n then .lane else .code)
            window := none, earlyRun := 0, readmissionRun := 0
            counters := { c.counters with mismatches := raise c.counters.mismatches } }) ∧
    (supervised → f.frame.card = n → f.frame.code = e.expectedCode →
      ∀ w, c.window = some w → f.since w.reference < e.windowOpen →
        ∃ t, exec (.supervisorFrameTaken n) s = .next t ∧
          s.CardStep t n f.arrival rest s.frameQueue
            (if 3 ≤ c.earlyRun + 1 then
              { c with
                state := .faulty .early, window := none, earlyRun := 0, readmissionRun := 0
                counters := { c.counters with early := raise c.counters.early } }
            else
              { c with earlyRun := c.earlyRun + 1, counters := { c.counters with early := raise c.counters.early } }))

/-- A frame that passes the identity check and the window test is counted, opens the next window at its arrival, and
moves the card by the table of R23; a readmission run of three with CF clear enters IN_SERVICE. The card record carries
the stamp as it was taken (log 11). -/
def Obligations.AcceptedFrameOpensTheWindowAndMovesTheCard : Prop :=
  ∀ (s : State) (n : CardIdx) (f : GoodFrame) (rest : List LaneEvent),
    s.ConditionsLaw → s.CardsLaw → s.FrameWaits n f rest → s.Accepts n f →
    let e := s.tables.active.cards[n]
    let c := s.cards[n]
    let t0 := f.arrival + f.shift
    let service : CardState := if f.frame.cardFault then .suspect else .inService
    ∃ t queue after, exec (.supervisorFrameTaken n) s = .next t ∧ s.CardStep t n f.arrival rest queue after ∧
      after.window = some { reference := t0, openTime := t0 + BitVec.ofNat 32 e.windowOpen
                            closeTime := t0 + BitVec.ofNat 32 e.windowClose } ∧
      after.earlyRun = 0 ∧ after.counters.accepted = raise c.counters.accepted ∧
      after.counters.early = c.counters.early ∧ after.counters.lateExpiries = c.counters.lateExpiries ∧
      after.counters.mismatches = c.counters.mismatches ∧ after.counters.stale = c.counters.stale ∧
      (c.state = .late → after.state = .waiting ∧ after.readmissionRun = 1) ∧
      (c.state = .waiting → c.readmissionRun + 1 < 3 →
        after.state = .waiting ∧ after.readmissionRun = c.readmissionRun + 1) ∧
      (c.state = .waiting → 3 ≤ c.readmissionRun + 1 → after.state = service ∧ after.readmissionRun = 0) ∧
      (c.state = .inService ∨ c.state = .suspect →
        after.state = service ∧ after.readmissionRun = c.readmissionRun)

/-- The proving check of an accepted frame: a sample frame in its place changes nothing; a clean proving frame raises
the clean run and, under AUTOCLEAR, clears at exactly eight; a dirty one marks its mismatch; a flag disagreement marks
the whole mask. The card record carries the stamp as it was taken (log 11). -/
def Obligations.ProvingCheckOfAnAcceptedFrame : Prop :=
  ∀ (s : State) (n : CardIdx) (f : GoodFrame) (rest : List LaneEvent),
    s.ConditionsLaw → s.CardsLaw → s.FrameWaits n f rest → s.Accepts n f →
    let e := s.tables.active.cards[n]
    let c := s.cards[n]
    let mismatch := (f.frame.samples ^^^ patternAt e f.frame.sequence) &&& e.mask
    ∃ t queue after, exec (.supervisorFrameTaken n) s = .next t ∧ s.CardStep t n f.arrival rest queue after ∧
      ((f.frame.proving = true ↔ ¬expectedAt e f.frame.sequence) →
        after.errorMap = c.errorMap ||| e.mask ∧ after.proving = .fail ∧ after.cleanRun = 0 ∧
        after.counters.flagDisagreements = raise c.counters.flagDisagreements ∧
        after.counters.dirtyProving = c.counters.dirtyProving) ∧
      (f.frame.proving = false → ¬expectedAt e f.frame.sequence →
        after.errorMap = c.errorMap ∧ after.proving = c.proving ∧ after.cleanRun = c.cleanRun ∧
        after.counters.flagDisagreements = c.counters.flagDisagreements ∧
        after.counters.dirtyProving = c.counters.dirtyProving) ∧
      (f.frame.proving = true → expectedAt e f.frame.sequence → mismatch ≠ 0 →
        after.errorMap = c.errorMap ||| mismatch ∧ after.proving = .fail ∧ after.cleanRun = 0 ∧
        after.counters.dirtyProving = raise c.counters.dirtyProving ∧
        after.counters.flagDisagreements = c.counters.flagDisagreements) ∧
      (f.frame.proving = true → expectedAt e f.frame.sequence → mismatch = 0 →
        after.cleanRun = min 255 (c.cleanRun + 1) ∧
        after.counters.flagDisagreements = c.counters.flagDisagreements ∧
        after.counters.dirtyProving = c.counters.dirtyProving ∧
        (if e.mode = .autoclear ∧ c.cleanRun + 1 = 8 then after.errorMap = 0 ∧ after.proving = .ok
          else after.errorMap = c.errorMap ∧ after.proving = c.proving))

/-- An accepted sample frame in its place is offered to the Card Frame Queue: with fewer than 8 entries it becomes the
newest entry; with 8 it is dropped, counted at its card, and QUEUE_DROP latches when it is enabled. Any other accepted
frame leaves the queue as it was. The card record carries the stamp as it was taken (log 11). -/
def Obligations.AcceptedSampleFrameIsQueuedOrDropped : Prop :=
  ∀ (s : State) (n : CardIdx) (f : GoodFrame) (rest : List LaneEvent),
    s.ConditionsLaw → s.CardsLaw → s.FrameWaits n f rest → s.Accepts n f →
    let c := s.cards[n]
    let fit := f.frame.proving = false ∧ ¬expectedAt s.tables.active.cards[n] f.frame.sequence
    ∃ t queue after, exec (.supervisorFrameTaken n) s = .next t ∧ s.CardStep t n f.arrival rest queue after ∧
      (fit → s.frameQueue.length < 8 →
        queue = s.frameQueue ++ [{ lane := n, card := n, samples := f.frame.samples, arrival := f.arrival }] ∧
        after.counters.queueDrops = c.counters.queueDrops) ∧
      (fit → 8 ≤ s.frameQueue.length →
        queue = s.frameQueue ∧ after.counters.queueDrops = raise c.counters.queueDrops ∧
        (s.conditions.enables[cQueueDrop] = true → t.conditions.latched[cQueueDrop] = true)) ∧
      (¬fit → queue = s.frameQueue ∧ after.counters.queueDrops = c.counters.queueDrops)

/-- A close expiry makes an IN_SERVICE or SUSPECT card LATE and takes a WAITING card's run; a carrier fall makes a
supervised card ABSENT, with its proving state and counters cleared when its entry says so; a carrier rise makes an ABSENT
card WAITING. The expiry bears the close time; that it is taken however late its command comes is the model's choice
(log 16), and that a close time less than 2^31 ms back has been reached its reading (log 21). -/
def Obligations.CloseExpiryAndCarrierChanges : Prop :=
  ∀ (s : State) (n : CardIdx), s.ConditionsLaw → s.CardsLaw → s.swapping = false →
    let e := s.tables.active.cards[n]
    let c := s.cards[n]
    (∀ w, c.window = some w → (s.time.counter - w.closeTime).toNat < 2 ^ 31 →
      ∃ t, exec (.closeExpiry n) s = .next t ∧
        s.CardStep t n w.closeTime s.inbox[n] s.frameQueue
          { c with
            state := if c.state = .waiting then .waiting else .late
            window := none, earlyRun := 0, readmissionRun := 0
            counters := { c.counters with lateExpiries := raise c.counters.lateExpiries } }) ∧
    (∀ rest, s.inbox[n] = .carrierFall :: rest →
      ∃ t, exec (.cardCarrierFall n) s = .next t ∧
        s.CardStep t n s.time.counter rest s.frameQueue
          { state := match c.state with
              | .off => .off
              | .faulty x => .faulty x
              | _ => .absent
            window := none
            earlyRun := match c.state with
              | .off => c.earlyRun
              | .faulty _ => c.earlyRun
              | .absent => c.earlyRun
              | _ => 0
            readmissionRun := 0
            errorMap := if e.clearOnLoss = true ∧ c.state ≠ .off then 0 else c.errorMap
            proving := if e.clearOnLoss = true ∧ c.state ≠ .off then .ok else c.proving
            cleanRun := if e.clearOnLoss = true ∧ c.state ≠ .off then 0 else c.cleanRun
            counters := if e.clearOnLoss = true ∧ c.state ≠ .off then .zero else c.counters }) ∧
    (∀ rest, s.inbox[n] = .carrierRise :: rest →
      ∃ t, exec (.cardCarrierRise n) s = .next t ∧
        s.CardStep t n s.time.counter rest s.frameQueue
          (if c.state = .absent then { c with state := .waiting, window := none, readmissionRun := 0 } else c))

/-- A card that leaves IN_SERVICE by any command other than a power-on, a RESTART or a commit swap sends one card-out event
to the Relay Evaluator, behind the events that wait there. -/
def Obligations.LeavingServiceSendsOneCardOut : Prop :=
  ∀ (i : Instr) (s t : State) (n : CardIdx), exec i s = .next t →
    (∀ straps, i ≠ .powerOn straps) → i ≠ .restart → i ≠ .commitSwapComplete →
    (s.cards[n]).state = .inService → (t.cards[n]).state ≠ .inService →
      ∃ time, t.evaluator.events = s.evaluator.events ++ [.cardOut n time]

/-! ### Conversion -/

/-- With the engine IDLE and no card event in flight, the engine removes the oldest frame, whether or not card events wait
(log 31). Of a WAITING or SUSPECT card the 64 values alone are
written; of an OFF, ABSENT, LATE or FAULTY card the frame is counted as stale and nothing is written. The pass before it
has completed (log 9). -/
def Obligations.ConversionOutOfServiceRunsNoPass : Prop :=
  ∀ (s : State) (q : QueueEntry) (rest : List QueueEntry), s.CardsLaw →
    s.engine = { state := .idle, swapWaiting := false } → s.evaluator.inFlight = false → s.frameQueue = q :: rest →
    let c := s.cards[q.card]
    let s' := ((s.setFrameQueue rest).setEngine { state := .converting q false, swapWaiting := false }).setEvaluator
      { s.evaluator with pass := none }
    (c.state = .waiting ∨ c.state = .suspect →
      exec .conversionStart s =
        .next (s'.setInput { s.input with values := s.input.values.set q.card q.samples })) ∧
    (c.state ≠ .waiting → c.state ≠ .suspect → c.state ≠ .inService →
      exec .conversionStart s =
        .next (s'.setCards
          (s.cards.set q.card { c with counters := { c.counters with stale := raise c.counters.stale } })))

/-- With no card event in flight, whether or not some wait (log 31), the oldest frame of an IN_SERVICE card is converted
with one relay pass: the card's 64 values are written, every relay of the card takes one sample at the frame's arrival
time from them and the card's known flags, and no other relay and no other card's value changes. A relay whose fault
class changes offers its RELAY record at its status time, and no other relay does. The whole pass is one step, which
keeps the records, entries, Report Queue and conditions before it for what is built meanwhile (log 9). -/
def Obligations.ConversionInServiceSamplesTheCardsRelays : Prop :=
  ∀ (s : State) (q : QueueEntry) (rest : List QueueEntry),
    s.engine = { state := .idle, swapWaiting := false } → s.evaluator.inFlight = false → s.frameQueue = q :: rest →
    (s.cards[q.card]).state = .inService →
    ∃ t, exec .conversionStart s = .next t ∧ t.frameQueue = rest ∧
      t.engine = { state := .converting q true, swapWaiting := false } ∧
      t.input = { values := s.input.values.set q.card q.samples, known := s.input.known } ∧
      t.evaluator = { events := s.evaluator.events, inFlight := false, changed := []
                      pass := some { card := some q.card, relays := s.relays, indications := s.indications
                                     report := s.report, conditions := s.conditions, choices := s.choices
                                     time := s.time, place := 0 } } ∧
      (∀ r : RelayIdx,
        let e := s.tables.active.relays[r]
        t.relays[r] =
          match e.common with
          | none => s.relays[r]
          | some c =>
            if c.card = q.card then
              sampleRelay e s.tables.active.classes[c.flickerClass] (rawDecode e q.samples s.input.known[q.card]) q.arrival
                s.relays[r]
            else s.relays[r]) ∧
      (s.conditions.waiting = [] → ∀ r : RelayIdx,
        let x := s.relays[r]
        let y := t.relays[r]
        if faultClass x.status = faultClass y.status then s.NotOffered t (.relay r)
        else s.Offered t (.relay r) (.relay y.status y.contact) y.statusTime) ∧
      s.changesOnly t ([.frameQueue, .engine, .input, .relays, .evaluator, .indications] ++ announceParts)

/-- A card-out event makes every relay of its card UNPROVEN with reason CARD_OUT, and a known-inputs event every relay of
its card that names a fallen input, with reason INPUT_UNKNOWN: the candidate, transit length and flash count are cleared
and a FLASHING overlay ends; the run length, the flicker level, the prior steady state and a FLICKERING overlay are kept;
the status time is the event's where the status changes. No other relay changes. A relay whose fault class changes offers
its RELAY record, and no other does. That the candidate time is kept where the candidate is cleared is the model's choice
(log 28), and so is the pass that the step leaves as one that may be in flight, with the records, entries, Report Queue
and conditions before it (log 9). The set is taken from the Active bank that stands, also where the event has waited
across a swap; the events behind it wait, and no longer hold the engine up (R12, R56). -/
def Obligations.CardEventsUnproveTheirRelays : Prop :=
  ∀ (s : State) (event : CardEvent) (rest : List CardEvent), s.swapping = false → s.evaluator.events = event :: rest →
    let time := match event with
      | .cardOut _ t => t
      | .knownInputs _ _ _ t => t
    let reason : UnprovenReason := match event with
      | .cardOut _ _ => .cardOut
      | .knownInputs _ _ _ _ => .inputUnknown
    let command : Instr := match event with
      | .cardOut _ _ => .cardOutEvent
      | .knownInputs _ _ _ _ => .knownInputsEvent
    let inSet (e : RelayEntry) : Prop := match e.common with
      | none => False
      | some c => match event with
        | .cardOut n _ => c.card = n
        | .knownInputs n fallen _ _ => c.card = n ∧ ∃ b ∈ e.bits, fallen.getLsbD b.val = true
    ∃ t, exec command s = .next t ∧
      t.evaluator = { events := rest, inFlight := false, changed := []
                      pass := some { card := none, relays := s.relays, indications := s.indications
                                     report := s.report, conditions := s.conditions, choices := s.choices
                                     time := s.time, place := 0 } } ∧
      (∀ r : RelayIdx,
        let x := s.relays[r]
        (inSet s.tables.active.relays[r] → t.relays[r] =
          { contact := .unproven reason
            overlay := if x.overlay = .flashing then .none else x.overlay
            candidate := none, candidateLength := 0, candidateTime := x.candidateTime
            transitLength := 0, priorSteady := x.priorSteady, runLength := x.runLength
            flickerLevel := x.flickerLevel, flashCount := 0, status := .unproven
            statusTime := if x.status = .unproven then x.statusTime else time }) ∧
        (¬inSet s.tables.active.relays[r] → t.relays[r] = s.relays[r])) ∧
      (s.conditions.waiting = [] → ∀ r : RelayIdx,
        let x := s.relays[r]
        let y := t.relays[r]
        if faultClass x.status = faultClass y.status then s.NotOffered t (.relay r)
        else s.Offered t (.relay r) (.relay y.status y.contact) y.statusTime) ∧
      s.changesOnly t ([.relays, .evaluator, .indications] ++ announceParts)

/-- The steps of the engine, the downstream transmitter and the refresh timer that move one thing each: a conversion
with a relay pass completes with no card event waiting and not before, one without a pass at once; a waiting swap is begun by
an idle engine with no card event in flight, whether or not some wait, and they wait across it (log 31); while one is in
flight, the engine begins no swap and removes no frame; the transmitter takes the oldest waiting frame, or is free; an expiry
moves the regular block and the timer runs on. That a pass may be in flight until then is log 9, that its conversion waits for the events sent since its passes too
log 31, and that a completion before its time changes nothing log 1. The time of a swap is log 10, a downstream transmitter
that is free or busy log 26. An expiry taken however
late its command comes is log 16, and that one less than 2^31 ms back has been reached log 21. -/
def Obligations.StepsThatMoveOneThing : Prop :=
  ∀ s : State,
    (∀ q, s.engine.state = .converting q true →
      (s.evaluator.events = [] → exec .conversionComplete s =
        .next ((s.setEngine { s.engine with state := .idle }).setEvaluator { s.evaluator with pass := none })) ∧
      (s.evaluator.events ≠ [] → exec .conversionComplete s = .next s)) ∧
    (∀ q, s.engine.state = .converting q false →
      exec .conversionComplete s = .next (s.setEngine { s.engine with state := .idle })) ∧
    (s.evaluator.inFlight = true →
      exec .commitSwapBegin s = .next s ∧ exec .conversionStart s = .next s) ∧
    (s.engine = { state := .idle, swapWaiting := true } → s.evaluator.inFlight = false →
      exec .commitSwapBegin s =
        .next ((s.setEngine { state := .swapping s.time.counter, swapWaiting := false }).setEvaluator
          { s.evaluator with pass := none })) ∧
    (∀ f rest, s.link.downward = f :: rest →
      exec .downstreamTxDone s = .next (s.setLink { s.link with downward := rest, downstreamTx := some f })) ∧
    (s.link.downward = [] → exec .downstreamTxDone s = .next (s.setLink { s.link with downstreamTx := none })) ∧
    (∀ x, s.reader.nextExpiry = some x → (s.time.counter - x).toNat < 2 ^ 31 →
      exec .refreshExpiry s =
        .next (s.setReader { s.reader with
          regular := if s.reader.regular = .none then .due else .overdue
          nextExpiry := some (x + BitVec.ofNat 32 s.reader.interval) }))

/-! ### Relays -/

/-- The raw decode: any named input unknown gives NONE; else the table of R43 by kind. A relay of one contact never enters
TRANSIT or CONTRADICTORY at a sample. The contradiction settle is the larger of the two settle counts. -/
def Obligations.RawDecodeByKind : Prop :=
  (∀ (e : RelayEntry) (values known : Inputs), (∃ b ∈ e.bits, known.getLsbD b.val = false) →
    rawDecode e values known = .unknown) ∧
  (∀ (f b : Fin 64) (l : Nat) (c : RelayCommon) (values known : Inputs),
    known.getLsbD f.val = true → known.getLsbD b.val = true →
      rawDecode (.paired f b l c) values known =
        (if values.getLsbD f.val then (if values.getLsbD b.val then Raw.both else .up)
          else if values.getLsbD b.val then .down else .opened)) ∧
  (∀ (f : Fin 64) (c : RelayCommon) (values known : Inputs), known.getLsbD f.val = true →
    rawDecode (.frontOnly f c) values known = (if values.getLsbD f.val then .up else .down)) ∧
  (∀ (b : Fin 64) (c : RelayCommon) (values known : Inputs), known.getLsbD b.val = true →
    rawDecode (.backOnly b c) values known = (if values.getLsbD b.val then .down else .up)) ∧
  (∀ (e : RelayEntry) (k : ClassRecord) (values known : Inputs) (t : Time) (r : RelayRuntime),
    (∀ f b l c, e ≠ .paired f b l c) → r.contact ≠ .transit → (∀ x, r.contact ≠ .contradictory x) →
      (sampleRelay e k (rawDecode e values known) t r).contact ≠ .transit ∧
        ∀ x, (sampleRelay e k (rawDecode e values known) t r).contact ≠ .contradictory x) ∧
  ∀ (e : RelayEntry) (c : RelayCommon), e.common = some c →
    e.settleCount .both = max c.settleUp c.settleDown ∧ e.settleCount .up = c.settleUp ∧
      e.settleCount .down = c.settleDown

/-- From a relay with no candidate, samples of one direction in a row settle at the settle count and not before. From the
opposite steady state that is an accepted change; from UNPROVEN or CONTRADICTORY a recovery; from TRANSIT an accepted change,
or a return, which keeps the run and adds no weight, where the direction is the prior steady state's. Samples with both
contacts closed settle at the contradiction settle, into CONTRADICTORY with reason BOTH_CLOSED; in CONTRADICTORY they only
clear the candidate. From any record, one sample of UP, DOWN or BOTH that counts raises the candidate it equals, or replaces
another by itself with length 1 and the sample time, and settles where that length reaches its settle count; a sample equal to
the contact state, and one with both contacts open, clear the candidate. So a bounce shorter than its settle count, ended by a
sample of the steady state, leaves no trace but in the run length. -/
def Obligations.SettleCountMovesTheContactState : Prop :=
  (∀ (e : RelayEntry) (k : ClassRecord) (d : Direction) (r : RelayRuntime) (times : List Time),
    let n := e.settleCount d.candidate
    let t := samplesInARow e k (match d with | .up => Raw.up | .down => Raw.down) times r
    1 ≤ n → n ≤ 15 → r.candidate = none → r.candidateLength = 0 → r.contact ≠ .steady d → r.contact ≠ .transit →
      (times.length < n → t.contact = r.contact) ∧
      (times.length = n →
        t.contact = .steady d ∧ t.priorSteady = some d ∧ t.candidate = none ∧ t.candidateLength = 0 ∧
        t.transitLength = 0 ∧ t.runLength = 0)) ∧
  (∀ (e : RelayEntry) (k : ClassRecord) (d : Direction) (r : RelayRuntime) (times : List Time),
    let n := e.settleCount d.candidate
    let t := samplesInARow e k (match d with | .up => Raw.up | .down => Raw.down) times r
    1 ≤ n → n ≤ 15 → r.candidate = none → r.candidateLength = 0 → r.contact = .transit →
      (times.length < n → t.contact = .transit ∧ t.transitLength = r.transitLength ∧ t.priorSteady = r.priorSteady) ∧
      (times.length = n →
        t.contact = .steady d ∧ t.priorSteady = some d ∧ t.candidate = none ∧ t.candidateLength = 0 ∧
        t.transitLength = 0 ∧
        (r.priorSteady ≠ some d → t.runLength = 0) ∧
        (r.priorSteady = some d →
          t.runLength = min 255 (r.runLength + n) ∧ t.flickerLevel = r.flickerLevel - n * k.decay))) ∧
  (∀ (e : RelayEntry) (k : ClassRecord) (r : RelayRuntime) (times : List Time),
    let n := e.settleCount .both
    let t := samplesInARow e k .both times r
    1 ≤ n → n ≤ 15 →
      ((∀ x, r.contact ≠ .contradictory x) → r.candidate = none → r.candidateLength = 0 →
        (times.length < n → t.contact = r.contact) ∧
        (times.length = n →
          t.contact = .contradictory .bothClosed ∧ t.candidate = none ∧ t.candidateLength = 0 ∧ t.transitLength = 0 ∧
          t.priorSteady = r.priorSteady)) ∧
      (∀ x, r.contact = .contradictory x → times ≠ [] →
        t.contact = .contradictory x ∧ t.candidate = none ∧ t.candidateLength = 0)) ∧
  (∀ (e : RelayEntry) (k : ClassRecord) (v : CandidateValue) (time : Time) (r : RelayRuntime),
    let x := sampleRelay e k v.raw time r
    let length := if r.candidate = some v then min 255 (r.candidateLength + 1) else 1
    r.contact ≠ v.contact → (∀ y, v = .both → r.contact ≠ .contradictory y) →
      (length < e.settleCount v →
        x.candidate = some v ∧ x.candidateLength = length ∧
        x.candidateTime = (if r.candidate = some v then r.candidateTime else time) ∧
        x.contact = r.contact ∧ x.priorSteady = r.priorSteady ∧ x.transitLength = r.transitLength) ∧
      (e.settleCount v ≤ length →
        x.candidate = none ∧ x.candidateLength = 0 ∧ x.contact = v.contact ∧ x.transitLength = 0)) ∧
  (∀ (e : RelayEntry) (k : ClassRecord) (d : Direction) (time : Time) (r : RelayRuntime), r.contact = .steady d →
    let x := sampleRelay e k d.candidate.raw time r
    x.candidate = none ∧ x.candidateLength = 0 ∧ x.contact = .steady d ∧ x.priorSteady = r.priorSteady) ∧
  (∀ (e : RelayEntry) (k : ClassRecord) (time : Time) (r : RelayRuntime),
    let x := sampleRelay e k .opened time r
    x.candidate = none ∧ x.candidateLength = 0) ∧
  ∀ (e : RelayEntry) (k : ClassRecord) (d : Direction) (v : CandidateValue) (times : List Time) (time : Time)
    (r : RelayRuntime), r.contact = .steady d → r.candidate = none → r.candidateLength = 0 → v ≠ d.candidate →
      times.length < e.settleCount v → e.settleCount v ≤ 15 →
    let x := sampleRelay e k d.candidate.raw time (samplesInARow e k v.raw times r)
    x.contact = .steady d ∧ x.candidate = none ∧ x.candidateLength = 0 ∧ x.priorSteady = r.priorSteady ∧
      x.transitLength = r.transitLength ∧ x.runLength = min 255 (r.runLength + times.length + 1)

/-- A steady PAIRED relay with both contacts open is in TRANSIT for as many samples as its transit limit, and CONTRADICTORY
with reason TRANSIT_TIMEOUT at the next. A relay already in TRANSIT or UNPROVEN adds its samples with both contacts open to the
transit length it has, clears its candidate at each, and is CONTRADICTORY with that reason once they pass the limit. Samples of
UP, DOWN or BOTH between them leave the length as it stands while they do not settle. -/
def Obligations.OpenContactsTimeOutAfterTheTransitLimit : Prop :=
  (∀ (f b : Fin 64) (limit : Nat) (c : RelayCommon) (k : ClassRecord) (d : Direction) (r : RelayRuntime)
    (times : List Time),
    let t := samplesInARow (.paired f b limit c) k .opened times r
    1 ≤ limit → r.contact = .steady d →
      (1 ≤ times.length → times.length ≤ limit →
        t.contact = .transit ∧ t.transitLength = times.length ∧ t.priorSteady = some d ∧ t.candidate = none) ∧
      (times.length = limit + 1 →
        t.contact = .contradictory .transitTimeout ∧ t.transitLength = 0 ∧ t.candidate = none)) ∧
  (∀ (f b : Fin 64) (limit : Nat) (c : RelayCommon) (k : ClassRecord) (r : RelayRuntime) (times : List Time),
    let t := samplesInARow (.paired f b limit c) k .opened times r
    (r.contact = .transit ∨ ∃ reason, r.contact = .unproven reason) → times ≠ [] →
      (r.transitLength + times.length ≤ limit →
        t.contact = r.contact ∧ t.transitLength = r.transitLength + times.length ∧ t.priorSteady = r.priorSteady ∧
        t.candidate = none ∧ t.candidateLength = 0) ∧
      (r.transitLength + times.length = limit + 1 →
        t.contact = .contradictory .transitTimeout ∧ t.transitLength = 0 ∧ t.priorSteady = r.priorSteady ∧
        t.candidate = none ∧ t.candidateLength = 0)) ∧
  ∀ (e : RelayEntry) (k : ClassRecord) (v : CandidateValue) (time : Time) (r : RelayRuntime),
    let x := sampleRelay e k v.raw time r
    (r.contact = .transit ∨ ∃ reason, r.contact = .unproven reason) →
      (if r.candidate = some v then min 255 (r.candidateLength + 1) else 1) < e.settleCount v →
      x.contact = r.contact ∧ x.transitLength = r.transitLength ∧ x.priorSteady = r.priorSteady ∧
        x.candidate = some v

/-- The run length, the flicker level and the flash count over one sample: the run length rises to 255 at most, and is 0
after an accepted change or a recovery; an accepted change whose run lies in the flash window raises the flash count, to 7
at most, and adds no weight (a FLICKERING overlay that ends in the sample clears the count again), any other adds the
weight and clears the count; every sample then takes the decay. A card event leaves the run length and the level as they
are, and the reset values have both at 0. -/
def Obligations.RunLengthAndFlickerLevelOfASample : Prop :=
  (∀ (e : RelayEntry) (k : ClassRecord) (raw : Raw) (t : Time) (r : RelayRuntime),
    let x := sampleRelay e k raw t r
    let run := min 255 (r.runLength + 1)
    let inWindow := ∃ w, e.flashWindow = some w ∧ w.fmin ≤ run ∧ run ≤ w.fmax
    (acceptedBetween r.priorSteady r.contact x.contact → x.runLength = 0) ∧
    (recoveryBetween r.contact x.contact → x.runLength = 0) ∧
    (¬acceptedBetween r.priorSteady r.contact x.contact → ¬recoveryBetween r.contact x.contact → x.runLength = run) ∧
    (acceptedBetween r.priorSteady r.contact x.contact → ¬inWindow →
      x.flickerLevel = min 255 (r.flickerLevel + k.weight) - k.decay ∧ x.flashCount = 0) ∧
    (acceptedBetween r.priorSteady r.contact x.contact → inWindow →
      x.flickerLevel = r.flickerLevel - k.decay ∧
      (k.lower < k.upper → ¬(r.overlay = .flickering ∧ x.flickerLevel ≤ k.lower) →
        x.flashCount = min 7 (r.flashCount + 1))) ∧
    (¬acceptedBetween r.priorSteady r.contact x.contact → x.flickerLevel = r.flickerLevel - k.decay)) ∧
  (∀ (reason : UnprovenReason) (t : Time) (r : RelayRuntime),
    (eventRelay reason t r).runLength = r.runLength ∧ (eventRelay reason t r).flickerLevel = r.flickerLevel) ∧
  ∀ t : Time, (RelayRuntime.reset t).runLength = 0 ∧ (RelayRuntime.reset t).flickerLevel = 0

/-- The overlay and the flash count over one sample, under a class with Lo below U. A level above U gives FLICKERING, which
is kept while the level is above Lo and ends, with the flash count 0, at or below it. Else NONE becomes FLASHING at an
in-window change that brings the flash count to Fconf; FLASHING ends at an accepted change out of the window, at a run past
Fmax and at an unknown input. The flash count is 0 where a FLASHING or FLICKERING overlay ends so, at an accepted change out
of the window and at an unknown input; it rises, to 7 at most, at an in-window change, and is kept otherwise. An
unknown input makes the relay UNPROVEN with reason INPUT_UNKNOWN from any contact state, clears the candidate, the transit
length and the flash count, and keeps the prior steady state; the run length rises and the level decays as at any sample. -/
def Obligations.OverlayAndFlashCountOfASample : Prop :=
  (∀ (e : RelayEntry) (k : ClassRecord) (raw : Raw) (t : Time) (r : RelayRuntime),
    let x := sampleRelay e k raw t r
    let run := min 255 (r.runLength + 1)
    let accepted := acceptedBetween r.priorSteady r.contact x.contact
    let inWindow := ∃ w, e.flashWindow = some w ∧ w.fmin ≤ run ∧ run ≤ w.fmax
    let confirmed := accepted ∧ inWindow ∧ ∃ w, e.flashWindow = some w ∧ w.fconf ≤ min 7 (r.flashCount + 1)
    let flashEnds := raw = .unknown ∨ (accepted ∧ ¬inWindow) ∨ ∃ w, e.flashWindow = some w ∧ w.fmax < x.runLength
    let flickerEnds := r.overlay = .flickering ∧ x.flickerLevel ≤ k.lower
    let cleared := raw = .unknown ∨ (accepted ∧ ¬inWindow) ∨ (r.overlay = .flashing ∧ flashEnds) ∨ flickerEnds
    k.lower < k.upper →
      (k.upper < x.flickerLevel → x.overlay = .flickering) ∧
      (r.overlay = .flickering → k.lower < x.flickerLevel → x.overlay = .flickering) ∧
      (flickerEnds → x.overlay = .none) ∧
      (r.overlay = .none → x.flickerLevel ≤ k.upper →
        (confirmed → x.overlay = .flashing) ∧ (¬confirmed → x.overlay = .none)) ∧
      (r.overlay = .flashing → x.flickerLevel ≤ k.upper →
        (flashEnds → x.overlay = .none) ∧ (¬flashEnds → x.overlay = .flashing)) ∧
      (cleared → x.flashCount = 0) ∧
      (¬cleared → accepted → x.flashCount = min 7 (r.flashCount + 1)) ∧
      (¬cleared → ¬accepted → x.flashCount = r.flashCount)) ∧
  ∀ (e : RelayEntry) (k : ClassRecord) (t : Time) (r : RelayRuntime),
    let x := sampleRelay e k .unknown t r
    x.contact = .unproven .inputUnknown ∧ x.status = .unproven ∧ x.candidate = none ∧ x.candidateLength = 0 ∧
      x.transitLength = 0 ∧ x.flashCount = 0 ∧ x.overlay ≠ .flashing ∧ x.priorSteady = r.priorSteady ∧
      x.runLength = min 255 (r.runLength + 1) ∧ x.flickerLevel = r.flickerLevel - k.decay

/-- The status of a sample and its time: the status is the contact state's where that is UNPROVEN or CONTRADICTORY, else
the overlay's, else the contact state's. A status that changes takes the candidate time at an accepted change, a recovery
or a contradiction by both contacts closed, and the sample time otherwise; one that stays keeps its time. -/
def Obligations.StatusAndStatusTimeOfASample : Prop :=
  ∀ (e : RelayEntry) (k : ClassRecord) (raw : Raw) (t : Time) (r : RelayRuntime),
    let x := sampleRelay e k raw t r
    let settled := acceptedBetween r.priorSteady r.contact x.contact ∨ recoveryBetween r.contact x.contact ∨
      ((∀ y, r.contact ≠ .contradictory y) ∧ x.contact = .contradictory .bothClosed)
    let sampled : Option CandidateValue := match raw with
      | .up => some .up
      | .down => some .down
      | .both => some .both
      | _ => none
    x.status = (match x.contact with
      | .unproven _ => .unproven
      | .contradictory _ => .contradictory
      | .transit => match x.overlay with
        | .flickering => .flickering
        | .flashing => .flashing
        | .none => .transit
      | .steady d => match x.overlay with
        | .flickering => .flickering
        | .flashing => .flashing
        | .none => match d with
          | .up => .up
          | .down => .down) ∧
    (x.status = r.status → x.statusTime = r.statusTime) ∧
    (x.status ≠ r.status → settled →
      x.statusTime = if r.candidate = sampled then r.candidateTime else t) ∧
    (x.status ≠ r.status → ¬settled → x.statusTime = t)

/-! ### Indications -/

/-- The code of an indication: an input in doubt gives the doubt code; else an input in TRANSIT gives the stored code under
HOLD (the doubt code where none is stored: R92 at a swap, log 23 elsewhere) and the transit code under CODE; else the pattern's code at t0 + 3·t1 + 9·t2 + 27·t3. -/
def Obligations.CodeOfAnIndication : Prop :=
  ∀ (e : IndicationEntry) (p : PatternRecord) (statuses : List Status) (stored : Option Code),
    let doubt := ∃ x ∈ statuses, x = .unproven ∨ x = .contradictory ∨ x = .flickering
    let term (k : Nat) : Nat := match statuses[k]? with
      | some .up => 1
      | some .flashing => 2
      | _ => 0
    (doubt → evaluate e p statuses stored = e.doubt) ∧
    (¬doubt → Status.transit ∈ statuses →
      evaluate e p statuses stored = match e.policy with
        | .hold => stored.getD e.doubt
        | .code c => c) ∧
    (¬doubt → Status.transit ∉ statuses →
      ∃ k : Fin 81, k.val = term 0 + 3 * term 1 + 9 * term 2 + 27 * term 3 ∧ k.val < 3 ^ min 4 statuses.length ∧
        evaluate e p statuses stored = p.codes[k])

/-- After a conversion or a card event of the given time, every defined indication that names a relay whose status changed
holds the code its inputs now give, and no other indication has changed. A code that differs from the one held takes as
its change time the latest status time among its inputs that changed; an equal one keeps its change time. That the latest is
judged from the conversion's or event's time, as R86 says, and not from the present counter is log 30's reading. An indication
whose code changed and whose entry reports offers its INDICATION record at its change time, and no other does. -/
def Obligations.IndicationPassFollowsTheStatuses : Prop :=
  ∀ (i : Instr) (time : Time) (s t : State), s.evaluator.changed = [] → exec i s = .next t →
    ((i = .conversionStart ∧ ∃ q rest, s.frameQueue = q :: rest ∧ q.arrival = time) ∨
      (i = .cardOutEvent ∧ ∃ n rest, s.evaluator.events = .cardOut n time :: rest) ∨
      (i = .knownInputsEvent ∧ ∃ n a b rest, s.evaluator.events = .knownInputs n a b time :: rest)) →
    ∀ x : IndicationIdx,
      let named (e : IndicationEntry) (r : RelayIdx) : Prop := r ∈ e.inputs ∧ (t.relays[r]).status ≠ (s.relays[r]).status
      (s.tables.active.indications[x] = none → t.indications[x] = s.indications[x] ∧
        (s.conditions.waiting = [] → s.NotOffered t (.indication x))) ∧
      ∀ e, s.tables.active.indications[x] = some e →
        let code := evaluate e s.tables.active.patterns[e.pattern] (e.inputs.map fun r => (t.relays[r]).status)
          (s.indications[x]).code
        ((∀ r, ¬named e r) → t.indications[x] = s.indications[x]) ∧
        ((∃ r, named e r) → (s.indications[x]).code = some code → t.indications[x] = s.indications[x]) ∧
        ((∃ r, named e r) → (s.indications[x]).code ≠ some code →
          ∃ r, named e r ∧
            t.indications[x] = { defined := (s.indications[x]).defined, code := some code
                                 changeTime := (t.relays[r]).statusTime } ∧
            ∀ r', named e r' → (time - (t.relays[r]).statusTime).toNat ≤ (time - (t.relays[r']).statusTime).toNat) ∧
        (s.conditions.waiting = [] →
          let y := t.indications[x]
          if y.code ≠ (s.indications[x]).code ∧ e.report = true then
            s.Offered t (.indication x) (.indication y.code) y.changeTime
          else s.NotOffered t (.indication x))

/-! ### The Report Queue -/

/-- An offer for a subject that waits is coalesced: value, last time and count follow it, the first time and the place are
kept, the time-valid flag is cleared while the Time Base is not valid, and nothing else of the part changes. -/
def Obligations.OfferForAWaitingSubjectIsCoalesced : Prop :=
  ∀ (o : Offer) (s : State), s.conditions.waiting = [] → (∃ r ∈ s.report.records, r.subject = o.subject) →
    offer o s = s.setReport { s.report with
      records := s.report.records.map fun r =>
        if r.subject = o.subject then
          { subject := r.subject, value := o.value, firstTime := r.firstTime, lastTime := o.time
            count := min 255 (r.count + 1), timeValid := if s.time.valid then r.timeValid else false }
        else r }

/-- An offer for a new subject is appended while fewer than 256 records wait, and REPORT_HIGH is live from the append that
brings the count to 193; with 256 waiting it is refused and counted, RESYNC_NEEDED is set and REPORT_OVERFLOW latches when
it is enabled. -/
def Obligations.OfferForANewSubjectIsAppendedOrRefused : Prop :=
  ∀ (o : Offer) (s : State), s.conditions.waiting = [] → (∀ r ∈ s.report.records, r.subject ≠ o.subject) →
    let q := s.report
    let t := offer o s
    (q.records.length < 256 →
      t.report = { q with
        records := q.records ++ [{ subject := o.subject, value := o.value, firstTime := o.time, lastTime := o.time
                                   count := 1, timeValid := s.time.valid }]
        high := if q.records.length = 192 then true else q.high } ∧
      (q.records.length = 192 → q.high = false → t.conditions.live[cReportHigh] = true ∧
        (s.conditions.enables[cReportHigh] = true → t.conditions.latched[cReportHigh] = true))) ∧
    (256 ≤ q.records.length →
      t.report = { q with refused := raise q.refused, resyncNeeded := true } ∧
      t.conditions.live = s.conditions.live ∧
      (s.conditions.enables[cReportOverflow] = true → t.conditions.latched[cReportOverflow] = true)) ∧
    s.changesOnly t [.report, .conditions]

/-- A report slot, granted while the Forward Buffer is empty or was granted last, removes the oldest records, sixteen at most,
into one REPORT frame that carries the report frame number,
which rises by 1; the first removal that leaves RESYNC_NEEDED set and at most 64 records appends MARKER RESYNC, or coalesces it
with one that still waits, clears the flag and starts an urgent sweep at block 0. REPORT_HIGH is not live from a count of 191 on down. A pass in flight is found
from then on beyond the changes that the records carry, and no further than before otherwise (log 9). -/
def Obligations.ReportSlotRemovesRecordsAndResynchronises : Prop :=
  ∀ s : State, s.link.responses = [] → (s.link.forward = [] ∨ s.link.lastGranted = .forward) →
    s.reader.urgent = none → s.reader.regular ≠ .overdue → s.report.records ≠ [] →
    let rest := s.report.records.drop 16
    let resync := s.report.resyncNeeded = true ∧ rest.length ≤ 64
    ∃ t, exec .upstreamTxDone s = .next t ∧
      t.link = { s.link with
        upstreamTx := some
          { destination := 63, source := nodeByte s.link.ownNode, kind := 3, tag := s.report.frameNumber
            payload := byte (s.report.records.take 16).length :: (s.report.records.take 16).flatMap recordBytes }
        lastGranted := .own } ∧
      (¬resync → t.report = { s.report with
        records := rest, frameNumber := s.report.frameNumber + 1
        high := if rest.length ≤ 191 then false else s.report.high } ∧ t.reader = s.reader) ∧
      (resync → t.report = { s.report with
        records :=
          if ∀ r ∈ rest, r.subject ≠ .resync then
            rest ++ [{ subject := .resync, value := .resync, firstTime := s.time.counter
                       lastTime := s.time.counter, count := 1, timeValid := s.time.valid }]
          else
            rest.map fun r =>
              if r.subject = .resync then
                { subject := .resync, value := .resync, firstTime := r.firstTime, lastTime := s.time.counter
                  count := min 255 (r.count + 1), timeValid := if s.time.valid then r.timeValid else false }
              else r
        resyncNeeded := false, frameNumber := s.report.frameNumber + 1, high := false } ∧
        t.reader = { s.reader with urgent := some 0 }) ∧
      t.conditions.live[cReportHigh] = t.report.high ∧ t.conditions.latched = s.conditions.latched ∧
      s.RemovesAt t (s.report.records.take 16) ∧ s.changesOnly t [.report, .conditions, .reader, .link, .evaluator]

/-! ### The upstream arbiter and the Image Reader -/

/-- Whenever the upstream transmitter is free, the arbiter sends the oldest entry of the Response Queue; with none, of the
Forward Buffer and the own source the one that waits, and of both the one not granted last; with nothing waiting the
transmitter stays free. -/
def Obligations.ArbiterSendsResponsesFirstAndAlternatesBelow : Prop :=
  ∀ s : State,
    (∀ e rest, s.link.responses = e :: rest →
      exec .upstreamTxDone s = .next (s.setLink { s.link with responses := rest, upstreamTx := some e.frame })) ∧
    (∀ f rest, s.link.responses = [] → s.link.forward = f :: rest →
      (s.ownTurn = none ∨ s.link.lastGranted = .own) →
      exec .upstreamTxDone s =
        .next (s.setLink { s.link with forward := rest, lastGranted := .forward, upstreamTx := some f })) ∧
    (s.link.responses = [] → s.ownTurn ≠ none → (s.link.forward = [] ∨ s.link.lastGranted = .forward) →
      ∃ t f, exec .upstreamTxDone s = .next t ∧
        t.link = { s.link with lastGranted := .own, upstreamTx := some f } ∧
        f.destination = 63 ∧ f.source = nodeByte s.link.ownNode ∧ (f.kind = 3 ∨ f.kind = 4) ∧
        s.changesOnly t [.report, .conditions, .reader, .link, .evaluator, .choices]) ∧
    (s.link.responses = [] → s.link.forward = [] → s.ownTurn = none →
      exec .upstreamTxDone s = .next (s.setLink { s.link with upstreamTx := none })) ∧
    (s.ownTurn = none ↔ s.reader.urgent = none ∧ s.reader.regular = .none ∧ s.report.records = [])

/-- A grant for a block, made while the Forward Buffer is empty or was granted last, sends its IMAGE frame: generation, start index, build time, the defined bitmap and the 32 codes as
they stand; a pass in flight is found at one place, with new entries before it and old ones after it, and no less far
than a frame found it before (log 9). The urgent sweep comes first, moves on by one block and ends after block 15; an OVERDUE regular block comes
before reports and a DUE one after them, and the walker moves on from 15 back to 0. -/
def Obligations.ImageSlotSendsTheBlockAsItStands : Prop :=
  ∀ (s : State) (b : BlockIdx), s.link.responses = [] → (s.link.forward = [] ∨ s.link.lastGranted = .forward) →
    let urgent := s.reader.urgent = some b
    let regular := s.reader.urgent = none ∧ s.reader.walker = b ∧
      (s.reader.regular = .overdue ∨ (s.reader.regular = .due ∧ s.report.records = []))
    (urgent ∨ regular) →
    ∃ t payload, exec .upstreamTxDone s = .next t ∧
      t.link = { s.link with
        upstreamTx := some { destination := 63, source := nodeByte s.link.ownNode, kind := 4
                             tag := BitVec.ofNat 8 b.val, payload := payload }
        lastGranted := .own } ∧
      payload.length = 44 ∧
      payload.take 8 = be16 s.tables.generation ++ be16 (BitVec.ofNat 16 (32 * b.val)) ++ be32 s.time.counter ∧
      (∃ place, s.BuildsAt t place ∧ ∀ (k : Fin 32) (i : IndicationIdx), i.val = 32 * b.val + k.val →
        let x := s.entryAt place i
        (byteAt payload (8 + k.val / 8)).getLsbD (k.val % 8) = x.defined ∧
        byteAt payload (12 + k.val) = match x.code with
          | some c => BitVec.ofNat 8 c.val
          | none => 0xFF#8) ∧
      (urgent → t.reader = { s.reader with urgent := if b.val = 15 then none else some (b + 1) }) ∧
      (regular → t.reader = { s.reader with regular := .none, walker := if b.val = 15 then 0 else b + 1 }) ∧
      s.changesOnly t [.reader, .link, .evaluator, .choices]

/-- REFRESH CONTROL: another enable value than 0 or 1 is answered FIELD and changes nothing; else the interval is clamped
to 10 to 2000 and stored, and the request answered OK with both. An enable starts the timer afresh; a disable stops it and
drops the regular block. -/
def Obligations.RefreshControlSetsTheTimer : Prop :=
  ∀ (s : State) (q : Request) (enable hi lo : Byte), s.Serves q → q.payload = [0x31#8, enable, hi, lo] →
    let asked := (ofBe16 hi lo).toNat
    let interval := if asked < 10 then 10 else if 2000 < asked then 2000 else asked
    ∃ t, exec .refreshControl s = .next t ∧ s.linkOtherwiseSame t ∧ s.changesOnly t [.reader, .link] ∧
      (enable ≠ 0 → enable ≠ 1 → s.Answered t q 3 [] ∧ t.reader = s.reader) ∧
      (enable = 1 → s.Answered t q 0 (1 :: be16 (BitVec.ofNat 16 interval)) ∧
        t.reader = { s.reader with
          enable := true, interval := interval, nextExpiry := some (s.time.counter + BitVec.ofNat 32 interval) }) ∧
      (enable = 0 → s.Answered t q 0 (0 :: be16 (BitVec.ofNat 16 interval)) ∧
        t.reader = { s.reader with
          enable := false, interval := interval, nextExpiry := none, regular := .none })

/-- SNAPSHOT: BUSY while a train is in flight; FIELD for an unknown kind, a card above 15 where the kind uses it, or a
count of 0; RANGE for a start beyond the collection; else the train begins with its first frame, its count clamped to
the collection's end, and ends at once where that frame holds the whole span. The items are those that a frame built now
finds. The final byte as 1 or 0 is the model's reading (log 12). The proving status byte is a free value, and that it and the
clean run of a PROVING frame fill one byte each is the model's choice (log 13). -/
def Obligations.SnapshotIsRefusedOrBeginsATrain : Prop :=
  ∀ (s : State) (q : Request) (k card s1 s0 c1 c0 : Byte), s.Serves q → q.payload = [0x30#8, k, card, s1, s0, c1, c0] →
    let start := (ofBe16 s1 s0).toNat
    let asked := (ofBe16 c1 c0).toNat
    let badField := k = 0 ∨ 6 < k.toNat ∨ ((k = 3 ∨ k = 4) ∧ 15 < card.toNat) ∨ asked = 0
    let size := if k = 1 then 512 else if k = 2 then 768 else if k = 5 then 16 else if k = 6 then 232 else 64
    let perFrame := if k = 1 then 128 else if k = 5 then 16 else 64
    let count := min asked (size - start)
    ∃ t, exec .snapshot s = .next t ∧ s.linkOtherwiseSame t ∧ s.changesOnly t [.reader, .link, .evaluator, .choices] ∧
      (s.reader.train ≠ .none → s.Answered t q 1 [] ∧ s.changesOnly t [.link]) ∧
      (s.reader.train = .none → badField → s.Answered t q 3 [] ∧ s.changesOnly t [.link]) ∧
      (s.reader.train = .none → ¬badField → size ≤ start → s.Answered t q 2 [] ∧ s.changesOnly t [.link]) ∧
      (s.reader.train = .none → ¬badField → start < size →
        ∃ kind frame, kindOfByte k = some kind ∧ t.link.requests = [] ∧ t.link.promises = 0 ∧
          t.link.responses = s.link.responses ++ [{ frame := frame, train := true }] ∧
          frame.destination = nodeByte q.source ∧ frame.source = nodeByte s.link.ownNode ∧ frame.kind = 2 ∧
          frame.tag = q.tag ∧ t.evaluator = (atBuild s).evaluator ∧ t.choices = (atBuild s).choices ∧
          frame.payload =
            [0x30#8, 0, k] ++ be16 (BitVec.ofNat 16 start) ++ be16 (BitVec.ofNat 16 count) ++
              be16 s.tables.generation ++ be32 s.time.counter ++ [if count ≤ perFrame then 1 else 0] ++
              (if k = 4 then
                let c := s.cards[card.toNat % 16]
                [Config.provingStatusByte (c.proving = .fail), BitVec.ofNat 8 c.cleanRun]
              else []) ++
              ((((atBuild s).items kind ⟨card.toNat % 16, Nat.mod_lt _ (by decide)⟩).drop start).take (min perFrame count)).flatten ∧
          (count ≤ perFrame → t.reader = s.reader) ∧
          (perFrame < count → t.reader = { s.reader with
            train := .running
              { source := q.source, tag := q.tag, kind := kind, card := ⟨card.toNat % 16, Nat.mod_lt _ (by decide)⟩
                start := start, count := count, next := start + perFrame } }))

/-- With a free place, no frame of the train waiting and no swap in progress, the next frame of a RUNNING train takes
the next items and the train ends with its last item; the frame of an ABORTING train is final, with status ABORTED and
no items, and ends the train. The items are those that a frame built now finds. The final byte as 1 or 0 is the model's
reading (log 12). The first-item field of the aborted frame is a free value (log 14), and so is the proving status byte. That
it and the clean run of a PROVING frame fill one byte each is the model's choice (log 13). -/
def Obligations.TrainFramesAreBuiltOneAtATime : Prop :=
  ∀ (s : State) (w : TrainWork), s.swapping = false → s.link.responses.length + s.link.promises < 4 →
    (∀ e ∈ s.link.responses, e.train = false) → w.InSpan →
    let perFrame := w.kind.perFrame
    let left := w.start + w.count - w.next
    let clamped := be16 (if w.next = w.start then BitVec.ofNat 16 w.count else 0)
    let proving := if w.kind = .proving then
        [Config.provingStatusByte ((s.cards[w.card]).proving = .fail), BitVec.ofNat 8 (s.cards[w.card]).cleanRun]
      else []
    let placed (payload : List Byte) := s.link.responses ++
      [{ frame := { destination := nodeByte w.source, source := nodeByte s.link.ownNode, kind := 2, tag := w.tag
                    payload := payload }, train := true }]
    (s.reader.train = .running w →
      exec .trainFrameBuild s =
        .next (((atBuild s).setLink { s.link with
          responses := placed
            ([0x30#8, 0, w.kind.byte] ++ be16 (BitVec.ofNat 16 w.next) ++ clamped ++ be16 s.tables.generation ++
              be32 s.time.counter ++ [if left ≤ perFrame then 1 else 0] ++ proving ++
              ((((atBuild s).items w.kind w.card).drop w.next).take (min perFrame left)).flatten) }).setReader
          { s.reader with
            train := if left ≤ perFrame then .none else .running { w with next := w.next + perFrame } })) ∧
    (s.reader.train = .aborting w →
      exec .abortedFrameBuild s =
        .next ((s.setLink { s.link with
          responses := placed
            ([0x30#8, 7, w.kind.byte] ++ be16 (Config.abortedFirstItem w.next) ++ clamped ++
              be16 s.tables.generation ++ be32 s.time.counter ++ [1] ++ proving) }).setReader
          { s.reader with train := .none }))

/-- The fourteen bytes of a Change Record, and the items of each kind with the collection they are read from, numbered as
R119 and R167 number them, multi-byte numbers most significant byte first. A frame built while a pass is in flight finds it
at one place: new values before it, old ones after it, and no less far than a frame found it before (log 9). The flags byte
as 1 or 0 is the model's reading (log 12). -/
def Obligations.BytesOfRecordsAndItems : Prop :=
  let number (bytes : List Byte) : Nat := bytes.foldl (fun n b => 256 * n + b.toNat) 0
  let code : Option Code → Nat
    | some c => c.val
    | none => 255
  let relayStatus (status : Status) (contact : Contact) : Nat :=
    (match status with
      | .down => 0 | .up => 1 | .transit => 2 | .flashing => 3 | .flickering => 4 | .contradictory => 5 | .unproven => 6) +
    16 * (match contact with
      | .unproven .inputUnknown => 1 | .unproven .cardOut => 2 | .unproven .newEntry => 3
      | .contradictory .bothClosed => 4 | .contradictory .transitTimeout => 5
      | .steady _ => 0 | .transit => 0)
  let card (state : CardState) (proving : ProvingStatus) : Nat :=
    (match state with
      | .off => 0 | .absent => 1 | .waiting => 2 | .inService => 3 | .suspect => 4 | .late => 5
      | .faulty .early => 6 + 8 * 1 | .faulty .code => 6 + 8 * 2 | .faulty .lane => 6 + 8 * 3) +
    (match proving with
      | .ok => 0 | .fail => 128)
  (∀ r : ChangeRecord, r.count ≤ 255 →
    ∃ kind index value first last count flags : List Byte,
      recordBytes r = kind ++ index ++ value ++ first ++ last ++ count ++ flags ∧
      kind.length = 1 ∧ index.length = 2 ∧ value.length = 1 ∧ first.length = 4 ∧ last.length = 4 ∧ count.length = 1 ∧
      flags.length = 1 ∧
      (number kind, number index) = (match r.subject with
        | .indication i => (1, i.val)
        | .relay n => (2, n.val)
        | .card c => (3, c.val)
        | .condition n => (4, n.val)
        | .restarted => (5, 0)
        | .resync => (5, 1)) ∧
      number value = (match r.value with
        | .indication c => code c
        | .relay status contact => relayStatus status contact
        | .card state proving => card state proving
        | .condition n => n.val
        | .restarted => 0
        | .resync => 1) ∧
      number first = r.firstTime.toNat ∧ number last = r.lastTime.toNat ∧ number count = r.count ∧
      number flags = if r.timeValid then 1 else 0) ∧
  (∀ (s : State) (c : CardIdx) (place : Nat), (∀ p, s.evaluator.pass = some p → p.place = place) →
    let holds (kind : ItemKind) (size : Nat) (width : Nat) (item : Nat → List Byte → Prop) : Prop :=
      (s.items kind c).length = size ∧
        ∀ (k : Nat) (bytes : List Byte), (s.items kind c)[k]? = some bytes → bytes.length = width ∧ item k bytes
    holds .indication 512 1 (fun k bytes => ∀ i : IndicationIdx, i.val = k → number bytes = code (s.entryAt place i).code) ∧
    holds .relay 768 2 (fun k bytes => ∀ r : RelayIdx, r.val = k →
      let x := s.relayAt place r
      (byteAt bytes 0).toNat = relayStatus x.status x.contact ∧ (byteAt bytes 1).toNat = x.flickerLevel % 256) ∧
    holds .input 64 1 (fun k bytes => number bytes =
      (if (s.input.values[c]).getLsbD k then 1 else 0) + (if (s.input.known[c]).getLsbD k then 2 else 0)) ∧
    holds .proving 64 1 (fun k bytes => number bytes = if ((s.cards[c]).errorMap).getLsbD k then 1 else 0) ∧
    holds .card 16 1 (fun k bytes => ∀ n : CardIdx, n.val = k →
      number bytes = card (s.cards[n]).state (s.cards[n]).proving) ∧
    holds .counters 232 2 (fun k bytes =>
      (∀ (n : CardIdx) (j : Fin 6), k = 6 * n.val + j.val →
        let l := s.lanes[n]
        number bytes = (match j with
          | 0 => l.goodFrames | 1 => l.crcErrors | 2 => l.lengthErrors | 3 => l.malformed | 4 => l.repeats
          | 5 => l.missing).toNat) ∧
      (∀ (n : CardIdx) (j : Fin 8), k = 96 + 8 * n.val + j.val →
        let x := (s.cards[n]).counters
        number bytes = (match j with
          | 0 => x.accepted | 1 => x.early | 2 => x.lateExpiries | 3 => x.mismatches | 4 => x.dirtyProving
          | 5 => x.flagDisagreements | 6 => x.queueDrops | 7 => x.stale).toNat) ∧
      ∀ j : Fin 8, k = 224 + j.val →
        let x := s.link.counters
        number bytes = (match j with
          | 0 => x.upstreamCrc | 1 => x.downstreamCrc | 2 => x.unroutable | 3 => x.wrongKind | 4 => x.downwardDrops
          | 5 => x.forwardDrops | 6 => x.requestDrops | 7 => x.broadcastDrops).toNat)) ∧
  ∀ s : State, ∃ place, s.BuildsAt (atBuild s) place ∧ s.changesOnly (atBuild s) [.evaluator, .choices]

/-! ### The Table Store -/

/-- A record in its stored form, encoded and read back, is that record, whatever its fields within their ranges; its
encoding fills its table's record size, holds each present field at its place, and holds 0 in reserved bits and absent
fields. Bytes that differ from its encoding only in reserved bits and absent fields read as that record too. Bytes read as a
record exactly when it is of the table, its fields lie within their ranges, and the bytes hold each present field at its
place; they read as none exactly when a present field lies outside its values (a Wc of 1001, a proving interval byte of 5, an Su
of 0, a kind of 4, a loaded byte of 2). -/
def Obligations.TableRecordRoundTrip : Prop :=
  (∀ r : TableRecord, r.InRange →
    r.bytes.length = r.table.recordSize ∧ readRecord r.table r.bytes = some r ∧ r.StandsIn r.bytes ∧
    (∀ k b, r.Spare k b → (byteAt r.bytes k).getLsbD b = false) ∧
    ∀ bytes : List Byte,
      (∀ k b, k < r.table.recordSize → b < 8 → ¬r.Spare k b →
        (byteAt bytes k).getLsbD b = (byteAt r.bytes k).getLsbD b) →
      readRecord r.table bytes = some r) ∧
  ∀ (t : TableCode) (bytes : List Byte),
    (∀ r : TableRecord, readRecord t bytes = some r ↔ r.table = t ∧ r.InRange ∧ r.StandsIn bytes) ∧
    (readRecord t bytes = none ↔ ¬t.FieldsHold bytes)

/-- TABLE WRITE: the first case that applies of BUSY, FIELD at the start, LENGTH, RANGE and FIELD at the first bad record
writes nothing; else every record of the span stands in Staging in its stored form, no other record changes, and the
answer is OK. -/
def Obligations.TableWriteIsAppliedWholeOrNotAtAll : Prop :=
  ∀ (s : State) (q : Request) (b s1 s0 n : Byte) (records : List Byte), s.Serves q →
    q.payload = 0x20#8 :: b :: s1 :: s0 :: n :: records →
    let start := (ofBe16 s1 s0).toNat
    let count := n.toNat
    let idle := s.tables.checker = .idle
    let read (t : TableCode) (k : Nat) := readRecord t ((records.drop (k * t.recordSize)).take t.recordSize)
    ∃ u, exec .tableWrite s = .next u ∧ s.linkOtherwiseSame u ∧ s.changesOnly u [.tables, .link] ∧
      (¬idle → s.Answered u q 1 [] ∧ u.tables = s.tables) ∧
      (idle → (tableOfByte b = none ∨ count = 0) → s.Answered u q 3 [s1, s0] ∧ u.tables = s.tables) ∧
      ∀ t, idle → tableOfByte b = some t → count ≠ 0 →
        (records.length ≠ count * t.recordSize → s.Answered u q 4 [] ∧ u.tables = s.tables) ∧
        (records.length = count * t.recordSize → t.records < start + count →
          s.Answered u q 2 [] ∧ u.tables = s.tables) ∧
        (records.length = count * t.recordSize → start + count ≤ t.records →
          (∀ k, k < count → read t k = none → (∀ j, j < k → read t j ≠ none) →
            s.Answered u q 3 (be16 (BitVec.ofNat 16 (start + k))) ∧ u.tables = s.tables) ∧
          ((∀ k, k < count → read t k ≠ none) →
            s.Answered u q 0 [] ∧ u.tables = { s.tables with staging := u.tables.staging } ∧
            ∀ (t' : TableCode) (i : Nat), u.tables.staging.record? t' i =
              if t' = t ∧ start ≤ i ∧ i < start + count then read t (i - start) else s.tables.staging.record? t' i))

/-- TABLE READ, in every state of the checker: FIELD for an unknown bank or table or a count of 0; RANGE for a start
beyond the table; else OK with the clamped count and that many records of the bank, encoded, from the start on. It changes
nothing. That FIELD goes before RANGE where both apply is the model's choice (log 33). COPY ACTIVE TO STAGING replaces Staging by the Active bank and is answered OK. COMMIT begins the check, releases
its promise and is not answered yet. With a commit in flight COPY and COMMIT are answered BUSY and change nothing. -/
def Obligations.TableReadCopyAndCommit : Prop :=
  (∀ (s : State) (q : Request) (bank b s1 s0 n : Byte), s.Serves q → q.payload = [0x21#8, bank, b, s1, s0, n] →
    let start := (ofBe16 s1 s0).toNat
    ∃ u, exec .tableRead s = .next u ∧ s.linkOtherwiseSame u ∧ s.changesOnly u [.link] ∧
      (((bank ≠ 1 ∧ bank ≠ 2) ∨ tableOfByte b = none ∨ n = 0) → s.Answered u q 3 []) ∧
      ∀ t, (bank = 1 ∨ bank = 2) → tableOfByte b = some t → n ≠ 0 →
        let from_ := if bank = 1 then s.tables.active else s.tables.staging
        let count := min n.toNat (min (t.records - start) t.perFrame)
        (t.records ≤ start → s.Answered u q 2 []) ∧
        (start < t.records → ∃ rs : List TableRecord, rs.length = count ∧
          (∀ k, k < count → rs[k]? = from_.record? t (start + k)) ∧
          s.Answered u q 0 (b :: s1 :: s0 :: BitVec.ofNat 8 count :: rs.flatMap TableRecord.bytes))) ∧
  ∀ (s : State) (q : Request), s.Serves q →
    (q.payload = [0x22#8] →
      ∃ u, exec .copyActiveToStaging s = .next u ∧ s.linkOtherwiseSame u ∧ s.changesOnly u [.tables, .link] ∧
        (s.tables.checker = .idle → s.Answered u q 0 [] ∧ u.tables = { s.tables with staging := s.tables.active }) ∧
        (s.tables.checker ≠ .idle → s.Answered u q 1 [] ∧ u.tables = s.tables)) ∧
    (q.payload = [0x23#8] →
      ∃ u, exec .commit s = .next u ∧ s.linkOtherwiseSame u ∧ s.changesOnly u [.tables, .link] ∧
        (s.tables.checker = .idle →
          u.link.requests = [] ∧ u.link.promises = 0 ∧ u.link.responses = s.link.responses ∧
          u.tables = { s.tables with checker := .checking { source := q.source, tag := q.tag, answered := true } 0 }) ∧
        (s.tables.checker ≠ .idle → s.Answered u q 1 [] ∧ u.tables = s.tables))

/-- A bank passes the check exactly when every Card entry has Wo < Wc; every loaded Class record Lo < U; every relay an
enabled card, two different bits, no input shared with another relay, Fmin at most Fmax and a loaded class; every defined
indication relays of a kind other than NONE and a loaded pattern. A passing check hands the swap to the Conversion Engine
and answers nothing yet. That CHECK_REFUSED changes nothing then, and CHECK_PASS nothing on a bank that fails, is the
model's choice (log 1). -/
def Obligations.CheckPassesExactlyALawfulBank : Prop :=
  ∀ (s : State) (w : CommitWork), s.tables.checker = .checking w 0 →
    let b := s.tables.staging
    let lawful :=
      (∀ c : CardIdx, (b.cards[c]).windowOpen < (b.cards[c]).windowClose) ∧
      (∀ k : ClassIdx, (b.classes[k]).loaded = true → (b.classes[k]).lower < (b.classes[k]).upper) ∧
      (∀ (r : RelayIdx) (c : RelayCommon), (b.relays[r]).common = some c →
        (b.cards[c.card]).enable = true ∧ (b.classes[c.flickerClass]).loaded = true ∧
        (∀ x y l k, b.relays[r] = .paired x y l k → x ≠ y) ∧
        (∀ f, c.flash = some f → f.fmin ≤ f.fmax) ∧
        ∀ (q : RelayIdx) (d : RelayCommon), q ≠ r → (b.relays[q]).common = some d → c.card = d.card →
          ∀ x ∈ (b.relays[r]).bits, x ∉ (b.relays[q]).bits) ∧
      ∀ (i : IndicationIdx) (e : IndicationEntry), b.indications[i] = some e →
        (∀ r ∈ e.inputs, b.relays[r] ≠ .none) ∧ (b.patterns[e.pattern]).loaded = true
    (b.passes = true ↔ lawful) ∧
    (lawful → exec .checkRefused s = .next s ∧
      exec .checkPass s =
        .next ((s.setTables { s.tables with checker := .swapWaiting w }).setEngine
          { s.engine with swapWaiting := true })) ∧
    (¬lawful → exec .checkPass s = .next s)

/-- The check ends at the first record, in the order of the check, that fails a test: Card entries, Class records, Relay
entries, Indication entries, each in ascending index, and the tests of a relay in the order a to e. The checker is IDLE, the
COMMIT's answer REFUSED with the error kind's number, 1 to 9, and the index joins the deferred answers, and COMMIT_REFUSED latches when it is
enabled. The oldest deferred answer is placed when there is room, and waits otherwise. A COMMIT whose promise a RESTART
cancelled is not answered (log 8). -/
def Obligations.CheckRefusedAtTheFirstFailure : Prop :=
  ∀ s : State,
    (∀ (w : CommitWork) (it : CheckItem) (kind : Byte),
      s.tables.checker = .checking w 0 → s.tables.staging.Fails it kind →
      (∀ (x : CheckItem) (k : Byte), x.rank < it.rank → ¬s.tables.staging.Fails x k) →
      ∃ t, exec .checkRefused s = .next t ∧ t.tables = { s.tables with checker := .idle } ∧
        t.link = { s.link with
          deferred := s.link.deferred ++
            (if w.answered then
              [{ destination := nodeByte w.source, source := nodeByte s.link.ownNode, kind := 2, tag := w.tag
                 payload := 0x23#8 :: 6 :: kind :: be16 (BitVec.ofNat 16 it.ownIndex) }]
            else []) } ∧
        (s.conditions.enables[cCommitRefused] = true → t.conditions.latched[cCommitRefused] = true) ∧
        s.changesOnly t ([.tables, .link] ++ announceParts)) ∧
    ∀ (f : DeskFrame) (rest : List DeskFrame), s.link.deferred = f :: rest →
      (s.link.responses.length + s.link.promises < 4 →
        exec .deferredAnswerPlaced s =
          .next (s.setLink { s.link with
            deferred := rest, responses := s.link.responses ++ [{ frame := f, train := false }] })) ∧
      (4 ≤ s.link.responses.length + s.link.promises → exec .deferredAnswerPlaced s = .next s)

/-- A swap in progress completes: Active is Staging, the generation has risen by 1, engine and checker are IDLE, the
COMMIT's OK with the new generation joins the deferred answers and COMMIT_DONE latches when it is enabled. A card keeps
its whole context under an identical entry, and begins again without proving state under a changed one; a card whose state
or proving status changes offers its CARD record at the swap's time (log 10), and no other does. A COMMIT whose promise a
RESTART cancelled is not answered (log 8). Requests that waited are handed on as RequestsBehindAreHandedOnInOrder says, and those
the Desk Link Unit answers itself are answered before the OK is placed (log 34). -/
def Obligations.SwapInstallsStagingAndCarriesCards : Prop :=
  ∀ (s : State) (taken : Time) (w : CommitWork), s.engine.state = .swapping taken →
    s.tables.checker = .swapWaiting w → s.link.requests = [] →
    ∃ t, exec .commitSwapComplete s = .next t ∧
      t.tables = { active := s.tables.staging, staging := s.tables.staging, generation := s.tables.generation + 1
                   checker := .idle } ∧
      t.engine = { s.engine with state := .idle } ∧
      t.link = { s.link with
        deferred := s.link.deferred ++
          (if w.answered then
            [{ destination := nodeByte w.source, source := nodeByte s.link.ownNode, kind := 2, tag := w.tag
               payload := 0x23#8 :: 0 :: be16 (s.tables.generation + 1) }]
          else []) } ∧
      (s.conditions.enables[cCommitDone] = true → t.conditions.latched[cCommitDone] = true) ∧
      (∀ n : CardIdx,
        let c := s.cards[n]
        let e := s.tables.staging.cards[n]
        t.cards[n] =
          (if s.tables.active.cards[n] = e then c
          else
            { state := if e.enable then (if (s.lanes[n]).carrier then .waiting else .absent) else .off
              window := none, earlyRun := 0, readmissionRun := 0, errorMap := 0, proving := .ok, cleanRun := 0
              counters := c.counters }) ∧
        t.input.known[n] = if (t.cards[n]).state = .inService then ~~~(t.cards[n]).errorMap else 0) ∧
      t.input.values = s.input.values ∧
      (s.conditions.waiting = [] → ∀ n : CardIdx,
        let c := s.cards[n]
        let x := t.cards[n]
        if c.state = x.state ∧ c.proving = x.proving then s.NotOffered t (.card n)
        else s.Offered t (.card n) (.card x.state x.proving) taken) ∧
      s.changesOnly t ([.tables, .engine, .link, .cards, .input, .relays, .indications] ++ announceParts)

/-- Over a swap a relay keeps its whole record when its entry, its Class record and its Card entry are identical, and
takes the reset values otherwise. An indication that stays undefined, or is kept, keeps its entry; one that becomes
undefined is UNDEFINED; every other is evaluated afresh from the statuses the swap leaves, and a value that differs
takes the swap's time. The swap's time is the one at which the engine took it (log 10). A relay whose fault class changes
offers its RELAY record, an indication whose value changes its INDICATION record where its new entry reports, or its old
one where it is newly undefined; no other record of theirs is offered. -/
def Obligations.SwapCarriesRelaysAndIndications : Prop :=
  ∀ (s t : State) (taken : Time), s.engine.state = .swapping taken → exec .commitSwapComplete s = .next t →
    let old := s.tables.active
    let new := s.tables.staging
    let carried (r : RelayIdx) : Prop := ∃ c, (new.relays[r]).common = some c ∧ old.relays[r] = new.relays[r] ∧
      old.classes[c.flickerClass] = new.classes[c.flickerClass] ∧ old.cards[c.card] = new.cards[c.card]
    (∀ r : RelayIdx, (carried r → t.relays[r] = s.relays[r]) ∧
      (¬carried r → t.relays[r] =
        { contact := .unproven .newEntry, overlay := .none, candidate := none, candidateLength := 0
          candidateTime := 0, transitLength := 0, priorSteady := none, runLength := 0, flickerLevel := 0
          flashCount := 0, status := .unproven, statusTime := taken })) ∧
    (s.conditions.waiting = [] → ∀ r : RelayIdx,
      let x := s.relays[r]
      let y := t.relays[r]
      if faultClass x.status = faultClass y.status then s.NotOffered t (.relay r)
      else s.Offered t (.relay r) (.relay y.status y.contact) taken) ∧
    (s.conditions.waiting = [] → ∀ i : IndicationIdx,
      let x : ImageEntry := s.indications[i]
      let y : ImageEntry := t.indications[i]
      let reports : Bool := match new.indications[i], old.indications[i] with
        | some e, _ => e.report
        | none, some e => e.report
        | none, none => false
      (y.code ≠ x.code ∧ reports = true → s.Offered t (.indication i) (.indication y.code) taken) ∧
        (¬(y.code ≠ x.code ∧ reports = true) → s.NotOffered t (.indication i))) ∧
    ∀ i : IndicationIdx,
      let x := s.indications[i]
      let kept (e : IndicationEntry) : Prop :=
        old.indications[i] = some e ∧ old.patterns[e.pattern] = new.patterns[e.pattern] ∧ ∀ r ∈ e.inputs, carried r
      let settled (defined : Bool) (code : Option Code) : ImageEntry :=
        { defined := defined, code := code, changeTime := if x.code = code then x.changeTime else taken }
      let afresh (e : IndicationEntry) (stored : Option Code) : Option Code :=
        some (evaluate e new.patterns[e.pattern] (e.inputs.map fun r => (t.relays[r]).status) stored)
      (old.indications[i] = none → new.indications[i] = none → t.indications[i] = x) ∧
      (old.indications[i] ≠ none → new.indications[i] = none → t.indications[i] = settled false none) ∧
      (∀ e, new.indications[i] = some e → kept e → t.indications[i] = x) ∧
      (∀ e, new.indications[i] = some e → old.indications[i] ≠ none → ¬kept e →
        t.indications[i] = settled true (afresh e x.code)) ∧
      (∀ e, new.indications[i] = some e → old.indications[i] = none →
        t.indications[i] = { defined := true, code := afresh e none, changeTime := taken })

/-! ### The desk ports -/

/-- A desk frame read back from the characters that encode it is that frame, for every header and every payload of at most
240 bytes, behind any characters in which no A5h is followed by 5Ah without an idle line between them; the line may have been
idle before the frame's first character. So an A5h that begins no start code is discarded, and the character after it is
examined afresh. -/
def Obligations.DeskFrameRoundTrip : Prop :=
  ∀ (f : DeskFrame) (noise : List PortChar), f.payload.length ≤ 240 →
    (∀ k a b, noise[k]? = some a → noise[k + 1]? = some b → a.byte = 0xA5#8 → b.byte = 0x5A#8 → b.afterIdle = true) →
    receive (noise ++ encodeDeskFrame f) = .good f ∧
      receive (noise ++ ⟨0xA5#8, true, true⟩ :: (encodeDeskFrame f).tail) = .good f

/-- A good frame from above is routed by the first line that applies: another kind is dropped; a request for the own node
is consumed with a promise where there is room, and dropped otherwise, and is never sent on; a broadcast is consumed and
offered downward; one within the range is offered downward; any other is unroutable. Each drop raises its own counter. That
a broadcast waits behind a swap or an earlier request is the model's reading (log 19). -/
def Obligations.FramesFromTheDeskAreRouted : Prop :=
  ∀ (s : State) (f : DeskFrame), f.payload.length ≤ 240 →
    let d := nodeOf f.destination
    let own := s.link.ownNode
    let c := s.link.counters
    let below := ∃ a b, s.link.range = some (a, b) ∧ a ≤ d ∧ d ≤ b
    let downward (l : DeskLink) : DeskLink :=
      if s.link.downward.length < 4 then { l with downward := s.link.downward ++ [f] }
      else { l with counters := { l.counters with downwardDrops := raise l.counters.downwardDrops } }
    let stands := s.swapping = true ∨ ∃ q rest, s.link.requests = q :: rest ∧ handing q = .toOwner
    let answers (l : DeskLink) : Prop := exec (.upstreamFrameReceived (encodeDeskFrame f)) s = .next (s.setLink l)
    (f.kind ≠ 1 → answers { s.link with counters := { c with wrongKind := raise c.wrongKind } }) ∧
    (f.kind = 1 → d = own → 4 ≤ s.link.responses.length + s.link.promises →
      answers { s.link with counters := { c with requestDrops := raise c.requestDrops } }) ∧
    (f.kind = 1 → d = own → s.link.responses.length + s.link.promises < 4 → stands →
      answers { s.link with
        promises := s.link.promises + 1
        requests := s.link.requests ++
          [{ source := nodeOf f.source, tag := f.tag, payload := f.payload, broadcast := false, promised := true }] }) ∧
    (f.kind = 1 → d ≠ own → d = 63 → stands →
      answers (downward { s.link with
        requests := s.link.requests ++
          [{ source := nodeOf f.source, tag := f.tag, payload := f.payload, broadcast := true, promised := false }] })) ∧
    (f.kind = 1 → d ≠ own → d = 63 → s.swapping = false → s.link.requests = [] →
      (byteAt f.payload 0 ≠ 0x40#8 ∨ f.payload.length ≠ 5) →
      answers (downward { s.link with counters := { c with broadcastDrops := raise c.broadcastDrops } })) ∧
    (f.kind = 1 → d ≠ own → d = 63 → s.swapping = false → s.link.requests = [] →
      byteAt f.payload 0 = 0x40#8 → f.payload.length = 5 →
      answers (downward { s.link with
        requests :=
          [{ source := nodeOf f.source, tag := f.tag, payload := f.payload, broadcast := true, promised := false }] })) ∧
    (f.kind = 1 → d ≠ own → d ≠ 63 → below → answers (downward s.link)) ∧
    (f.kind = 1 → d ≠ own → d ≠ 63 → ¬below →
      answers { s.link with counters := { c with unroutable := raise c.unroutable } })

/-- A request for the own node that is taken with none waiting: an unknown code is answered UNKNOWN, a known one of the
wrong length LENGTH, and any other waits for its owner with its promise; a CARD CONTROL of an unknown action is answered
FIELD here (log 7). A request of length 0 is answered UNKNOWN, with 00h for the code. During a swap no owner takes a
request. -/
def Obligations.RequestsAreCheckedThenHandedOn : Prop :=
  (∀ (s : State) (f : DeskFrame) (code : Byte) (params : List Byte), f.kind = 1 → f.payload = code :: params →
    params.length ≤ 239 → nodeOf f.destination = s.link.ownNode → s.swapping = false → s.link.requests = [] →
    s.link.responses.length + s.link.promises < 4 →
    let known := code ∈ [0x01#8, 0x02#8, 0x03#8, 0x04#8, 0x10#8, 0x20#8, 0x21#8, 0x22#8, 0x23#8, 0x30#8, 0x31#8, 0x40#8,
      0x41#8, 0x42#8, 0x43#8]
    let required : Nat :=
      if code ∈ [0x02#8, 0x10#8, 0x42#8, 0x43#8] then 2
      else if code = 0x20#8 ∨ code = 0x40#8 then 4
      else if code = 0x21#8 then 5
      else if code = 0x30#8 then 6
      else if code = 0x31#8 then 3
      else 0
    let wrongLength := if code = 0x20#8 then params.length < required else params.length ≠ required
    let badAction := code = 0x10#8 ∧ byteAt params 1 ≠ 1 ∧ byteAt params 1 ≠ 2 ∧ byteAt params 1 ≠ 3
    let answered (status : Byte) : Prop := exec (.upstreamFrameReceived (encodeDeskFrame f)) s =
      .next (s.setLink { s.link with
        responses := s.link.responses ++
          [{ frame := { destination := nodeByte (nodeOf f.source), source := nodeByte s.link.ownNode, kind := 2
                        tag := f.tag, payload := [code, status] }, train := false }] })
    (¬known → answered 5) ∧
    (known → wrongLength → answered 4) ∧
    (known → ¬wrongLength → badAction → answered 3) ∧
    (known → ¬wrongLength → ¬badAction →
      exec (.upstreamFrameReceived (encodeDeskFrame f)) s =
        .next (s.setLink { s.link with
          promises := s.link.promises + 1
          requests :=
            [{ source := nodeOf f.source, tag := f.tag, payload := f.payload, broadcast := false
               promised := true }] }))) ∧
  (∀ (s : State) (f : DeskFrame), f.kind = 1 → f.payload = [] → nodeOf f.destination = s.link.ownNode →
    s.swapping = false → s.link.requests = [] → s.link.responses.length + s.link.promises < 4 →
    exec (.upstreamFrameReceived (encodeDeskFrame f)) s =
      .next (s.setLink { s.link with
        responses := s.link.responses ++
          [{ frame := { destination := nodeByte (nodeOf f.source), source := nodeByte s.link.ownNode, kind := 2
                        tag := f.tag, payload := [0x00#8, 5] }, train := false }] })) ∧
  ∀ (s : State) (c : Instr), s.swapping = true →
    c ∈ [Instr.identify, .setChain, .restart, .abort, .readmit, .clearProving, .clearCounters, .tableWrite, .tableRead,
      .copyActiveToStaging, .commit, .snapshot, .refreshControl, .timeSet, .statusRead, .conditionEnable,
      .conditionAck] → exec c s = .next s

/-- Requests with others behind them, and requests that waited across a swap, are handed on in the order they arrived. Once
an owner has taken its request, or the swap has completed, the Desk Link Unit answers or drops those behind it up to the
next that goes to its owner, which waits; what the command does else is what it does with no request behind. That over a swap
these answers stand before the COMMIT's OK, which is placed later even where there is room, is the model's choice (log 34). Behind a
RESTART no request holds a promise any more (log 8), so none of them is answered. -/
def Obligations.RequestsBehindAreHandedOnInOrder : Prop :=
  ∀ (s : State) (done rest : List Request), (∀ q ∈ done, ¬q.forOwner) → (∀ q, rest.head? = some q → q.forOwner) →
    let unpromised (qs : List Request) : List Request := qs.map fun q => { q with promised := false }
    (∀ taken, s.engine.state = .swapping taken → s.link.requests = done ++ rest →
      ∃ u, exec .commitSwapComplete (s.setLink { s.link with requests := [] }) = .next u ∧ u.link.requests = [] ∧
        exec .commitSwapComplete s = .next (u.setLink (u.link.afterHandingOn done rest))) ∧
    ∀ (q : Request) (c : Instr) (u : State), s.swapping = false → s.link.requests = q :: (done ++ rest) →
      c ∈ [Instr.identify, .setChain, .restart, .abort, .readmit, .clearProving, .clearCounters, .tableWrite, .tableRead,
        .copyActiveToStaging, .commit, .snapshot, .refreshControl, .timeSet, .statusRead, .conditionEnable,
        .conditionAck] →
      exec c (s.setLink { s.link with requests := [q] }) = .next u → u.link.requests = [] →
        (c ≠ .restart → exec c s = .next (u.setLink (u.link.afterHandingOn done rest))) ∧
        (c = .restart → exec c s = .next (u.setLink (u.link.afterHandingOn (unpromised done) (unpromised rest))))

/-- A good frame from below joins the Forward Buffer, or is dropped, counted and a FORWARD_OVERFLOW event with 4 frames
there. A frame with a wrong CRC, a missing stop bit or a length above 240 is counted at its port as a CRC error and a
LINK_ERROR event, and so is a frame cut short by an idle line once its start code has been received; A5h and 5Ah with an
idle line between them begin no frame. A frame takes the payload bytes its length gives, above 240 too, before it is judged;
characters that do not make one whole change nothing as a frame received (log 1). That a missing stop bit in the start code
counts is the model's reading (log 18). -/
def Obligations.FramesFromBelowAndBadFrames : Prop :=
  ∀ s : State,
    (∀ f : DeskFrame, f.payload.length ≤ 240 →
      (s.link.forward.length < 4 → exec (.downstreamFrameReceived (encodeDeskFrame f)) s =
        .next (s.setLink { s.link with forward := s.link.forward ++ [f] })) ∧
      (4 ≤ s.link.forward.length → ∃ t, exec (.downstreamFrameReceived (encodeDeskFrame f)) s = .next t ∧
        t.link = { s.link with
          counters := { s.link.counters with forwardDrops := raise s.link.counters.forwardDrops } } ∧
        (s.conditions.enables[cForwardOverflow] = true → t.conditions.latched[cForwardOverflow] = true) ∧
        s.changesOnly t ([.link] ++ announceParts))) ∧
    let counted (p : Port) (i : Instr) : Prop := ∃ t, exec i s = .next t ∧
      t.link = { s.link with counters := match p with
        | .upstream => { s.link.counters with upstreamCrc := raise s.link.counters.upstreamCrc }
        | .downstream => { s.link.counters with downstreamCrc := raise s.link.counters.downstreamCrc } } ∧
      (s.conditions.enables[cLinkError] = true → t.conditions.latched[cLinkError] = true) ∧
      s.changesOnly t ([.link] ++ announceParts)
    (∀ chars : List PortChar,
      ((∃ (f : DeskFrame) (crc : BitVec 16), f.payload.length ≤ 240 ∧ crc ≠ crc16 f.covered ∧
          chars = (0xA5#8 :: 0x5A#8 :: (f.covered ++ be16 crc)).map fun b => ⟨b, true, false⟩) ∨
        (∃ f : DeskFrame, f.payload.length ≤ 240 ∧ chars.map PortChar.byte = f.bytes ∧
          (∀ c, chars[1]? = some c → c.afterIdle = false) ∧
          ((∃ c ∈ chars, c.stop = false) ∨ ∃ c ∈ chars.drop 2, c.afterIdle = true)) ∨
        (∃ (d o k g l : Byte) (rest : List Byte), 240 < l.toNat ∧ rest.length = l.toNat + 2 ∧
          chars = (0xA5#8 :: 0x5A#8 :: d :: o :: k :: g :: l :: rest).map fun b => ⟨b, true, false⟩)) →
      counted .upstream (.upstreamFrameReceived chars) ∧ counted .downstream (.downstreamFrameReceived chars)) ∧
    (∀ (a b : PortChar) (rest : List PortChar) (p : Port), a.byte = 0xA5#8 → b.byte = 0x5A#8 → b.afterIdle = true →
      (∀ c ∈ rest, c.byte ≠ 0xA5#8) →
      exec (.upstreamFrameReceived (a :: b :: rest)) s = .next s ∧
      exec (.downstreamFrameReceived (a :: b :: rest)) s = .next s ∧
      exec (.deskRxIdleTimeout p (a :: b :: rest)) s = .next s) ∧
    (∀ (p : Port) (a b : PortChar) (rest : List PortChar), a.byte = 0xA5#8 → b.byte = 0x5A#8 → b.afterIdle = false →
      (rest.length < 5 ∨ ∃ l, rest[4]? = some l ∧ rest.length < 7 + l.byte.toNat) →
        counted p (.deskRxIdleTimeout p (a :: b :: rest)) ∧
        ((∀ c ∈ rest, c.afterIdle = false) →
          exec (.upstreamFrameReceived (a :: b :: rest)) s = .next s ∧
          exec (.downstreamFrameReceived (a :: b :: rest)) s = .next s)) ∧
    ∀ (p : Port) (f : DeskFrame) (k : Nat), f.payload.length ≤ 240 →
      (2 ≤ k → k < 9 + f.payload.length → counted p (.deskRxIdleTimeout p ((encodeDeskFrame f).take k))) ∧
      (k < 2 → exec (.deskRxIdleTimeout p ((encodeDeskFrame f).take k)) s = .next s)

/-! ### The Desk Link Unit's own requests -/

/-- IDENTIFY is answered OK with the vendor code 17, the part code 1024, the revision 1, the own node, the downstream
range or FFh FFh, the generation and the time-valid flag, as they stand when the answer is built, and changes nothing.
STATUS READ is answered OK with the flags of the conditions, ALARM as the disjunction of the latched flags, the Time
Base, the Report Queue's figures and the three counts, and changes nothing. It reads every item at one moment. Built while
a pass is in flight, that is the moment at which the pass stands at some place: each relay is as the pass makes it before
the place and as it was after it; with no change of a fault class or an image entry before the place, the Report Queue
and the conditions are those before the pass; RELAY_FAULT is live exactly while a relay counted is at fault; and where it
began clear of both, it is latched exactly while it is live and enabled. The place is the model's choice, and so is that
the pass is found complete once a command has moved the Report Queue or the conditions (log 9). A flag that fills a byte is
1 or 0 (log 12). -/
def Obligations.IdentifyAndStatusRead : Prop :=
  ∀ (s : State) (q : Request), s.Serves q →
    (q.payload = [0x01#8] →
      ∃ t, exec .identify s = .next t ∧ s.linkOtherwiseSame t ∧ s.changesOnly t [.link] ∧
        s.Answered t q 0
          ([17#8] ++ be16 1024#16 ++ [1#8, nodeByte s.link.ownNode] ++
            (match s.link.range with
              | some (a, b) => [nodeByte a, nodeByte b]
              | none => [0xFF#8, 0xFF#8]) ++
            be16 s.tables.generation ++ [if s.time.valid then 1 else 0])) ∧
    (q.payload = [0x41#8] →
      let down := (List.finRange 16).countP fun c =>
        (s.tables.active.cards[c]).enable && (s.cards[c]).state != .inService
      let failing := (List.finRange 16).countP fun c => (s.cards[c]).proving = .fail
      ∃ (t : State) (flags : List Byte) (place : Nat), exec .statusRead s = .next t ∧ s.linkOtherwiseSame t ∧
        s.BuildsAt t place ∧ s.changesOnly t [.link, .evaluator, .choices] ∧ flags.length = 6 ∧
        let m := s.momentAt place
        let atFault := (List.finRange 768).countP fun r => faultClass (s.relayAt place r).status != .normal
        (∀ n : ConditionIdx,
          (byteAt flags (n.val / 8)).getLsbD (n.val % 8) = m.conditions.live[n] ∧
          (byteAt flags (2 + n.val / 8)).getLsbD (n.val % 8) = m.conditions.latched[n] ∧
          (byteAt flags (4 + n.val / 8)).getLsbD (n.val % 8) = m.conditions.enables[n]) ∧
        (∃ alarm : Bool, (alarm = true ↔ ∃ n : ConditionIdx, m.conditions.latched[n] = true) ∧
          s.Answered t q 0
            (flags ++ [if alarm then 1 else 0] ++ be32 s.time.counter ++ [if s.time.valid then 1 else 0] ++
              be16 (BitVec.ofNat 16 m.report.records.length) ++ [if m.report.resyncNeeded then 1 else 0] ++
              be16 m.report.refused ++ [BitVec.ofNat 8 down, BitVec.ofNat 8 failing] ++
              be16 (BitVec.ofNat 16 atFault))) ∧
        (s.evaluator.pass = none ∨ 1280 ≤ place → m = s) ∧
        (∀ r : RelayIdx, m.relays[r] = s.relayAt place r) ∧
        ∀ p, s.evaluator.pass = some p →
          let faultAt (x : RelayRuntime) : Bool := faultClass x.status != .normal
          (s.asPassLeft p = false → 1280 ≤ place) ∧
          (place < 1280 →
            ((∀ r : RelayIdx, r.val < place → faultClass (p.relays[r]).status = faultClass (s.relays[r]).status) →
              (∀ i : IndicationIdx, 768 + i.val < place → p.indications[i] = s.indications[i]) →
                m.report = p.report ∧ m.conditions = p.conditions) ∧
            (p.conditions.live[cRelayFault] = (List.finRange 768).any (fun r => faultAt p.relays[r]) →
              m.conditions.live[cRelayFault] = decide (0 < atFault) ∧
              (p.conditions.live[cRelayFault] = false → p.conditions.latched[cRelayFault] = false →
                m.conditions.latched[cRelayFault] = (p.conditions.enables[cRelayFault] && decide (0 < atFault))))))

/-- SET CHAIN sets the range to none for FFh FFh and to a lawful pair, answered OK with it; a waiting downward frame stays
where it is a broadcast or lies in the new range, and is removed and counted as unroutable otherwise. Any other pair is
answered FIELD and changes nothing. -/
def Obligations.SetChainSetsTheRange : Prop :=
  ∀ (s : State) (q : Request) (a b : Byte), s.Serves q → q.payload = [0x02#8, a, b] →
    let none_ := a = 0xFF#8 ∧ b = 0xFF#8
    let lawful := s.link.ownNode.val < a.toNat ∧ a.toNat ≤ b.toNat ∧ b.toNat ≤ 62
    let kept (f : DeskFrame) : Prop := nodeOf f.destination = 63 ∨
      (lawful ∧ a.toNat ≤ (nodeOf f.destination).val ∧ (nodeOf f.destination).val ≤ b.toNat)
    ∃ t, exec .setChain s = .next t ∧ s.changesOnly t [.link] ∧
      (none_ ∨ lawful → s.Answered t q 0 [a, b] ∧
        (none_ → t.link.range = none) ∧
        (lawful → ∃ x y : Node, t.link.range = some (x, y) ∧ x.val = a.toNat ∧ y.val = b.toNat) ∧
        (∃ stays : DeskFrame → Bool, (∀ f, stays f = true ↔ kept f) ∧
          t.link.downward = s.link.downward.filter stays) ∧
        t.link.counters = { s.link.counters with
          unroutable := raiseBy s.link.counters.unroutable (s.link.downward.length - t.link.downward.length) } ∧
        t.link.ownNode = s.link.ownNode ∧ t.link.downstreamTx = s.link.downstreamTx ∧
        t.link.forward = s.link.forward ∧ t.link.upstreamTx = s.link.upstreamTx ∧
        t.link.deferred = s.link.deferred ∧ t.link.lastGranted = s.link.lastGranted) ∧
      (¬none_ → ¬lawful → s.Answered t q 3 [] ∧ s.linkOtherwiseSame t)

/-- ABORT is answered OK in every case with the train flag and the check flag. A RUNNING train becomes ABORTING; a check
in flight stops, the checker is IDLE and its COMMIT's ABORTED joins the deferred answers; anything else is left as it
was. That the OK stands in the Response Queue in this step, ahead of that ABORTED and of the train's aborted frame, is the model's choice (log 29). A
COMMIT whose promise a RESTART cancelled is not answered (log 8). -/
def Obligations.AbortStopsTheTrainAndTheCheck : Prop :=
  ∀ (s : State) (q : Request), s.Serves q → q.payload = [0x04#8] →
    let running := ∃ w, s.reader.train = .running w
    let checking := ∃ w p, s.tables.checker = .checking w p
    ∃ (t : State) (train check : Bool), exec .abort s = .next t ∧ (train = true ↔ running) ∧ (check = true ↔ checking) ∧
      s.Answered t q 0 [BitVec.ofNat 8 ((if train then 1 else 0) + (if check then 2 else 0))] ∧
      (∀ w, s.reader.train = .running w → t.reader = { s.reader with train := .aborting w }) ∧
      (¬running → t.reader = s.reader) ∧
      (∀ w p, s.tables.checker = .checking w p →
        t.tables = { s.tables with checker := .idle } ∧
        t.link.deferred = s.link.deferred ++
          (if w.answered then
            [{ destination := nodeByte w.source, source := nodeByte s.link.ownNode, kind := 2, tag := w.tag
               payload := [0x23#8, 7] }]
          else [])) ∧
      (¬checking → t.tables = s.tables ∧ t.link.deferred = s.link.deferred) ∧
      s.linkOtherwiseSame { t with link := { t.link with deferred := s.link.deferred } } ∧
      s.changesOnly t [.reader, .tables, .link]

/-- RESTART resets every block: lanes and cards by their carrier flags, queues and buffers emptied, counters 0, relays
at their reset values, defined indications at their doubt codes, the urgent sweep begun, the checker IDLE; the enabled
live conditions latch behind the MARKER RESTARTED; tables, generation, enables, node, range, transmitters and Time Base
are kept; its own OK stands alone in the Response Queue. That the frames on their way to the Card Supervisor are kept is
the model's reading (log 17), and that the queue of commands is kept its choice (log 20). -/
def Obligations.RestartResetsEveryBlock : Prop :=
  ∀ (s : State) (q : Request), s.conditions.waiting = [] → s.Serves q → q.payload = [0x03#8] →
    let now := s.time.counter
    let entry (n : CardIdx) : CardEntry := s.tables.active.cards[n]
    let liveAfter (n : ConditionIdx) : Prop :=
      (n = cCardDown ∧ ∃ c, (entry c).enable = true) ∨ (n = cTimeInvalid ∧ s.time.valid = false)
    ∃ t, exec .restart s = .next t ∧
      (∀ n : CardIdx, t.lanes[n] =
        { carrier := (s.lanes[n]).carrier, lastSequence := none, goodFrames := 0, crcErrors := 0, lengthErrors := 0
          malformed := 0, repeats := 0, missing := 0 }) ∧
      (∀ n : CardIdx, t.cards[n] =
        { state := if (entry n).enable then (if (s.lanes[n]).carrier then .waiting else .absent) else .off
          window := none, earlyRun := 0, readmissionRun := 0, errorMap := 0, proving := .ok, cleanRun := 0
          counters := { accepted := 0, early := 0, lateExpiries := 0, mismatches := 0, dirtyProving := 0
                        flagDisagreements := 0, queueDrops := 0, stale := 0 } }) ∧
      t.frameQueue = [] ∧ t.engine = { state := .idle, swapWaiting := false } ∧
      (∀ n : CardIdx, t.input.values[n] = 0 ∧ t.input.known[n] = 0) ∧
      (∀ r : RelayIdx, t.relays[r] =
        { contact := .unproven .newEntry, overlay := .none, candidate := none, candidateLength := 0, candidateTime := 0
          transitLength := 0, priorSteady := none, runLength := 0, flickerLevel := 0, flashCount := 0
          status := .unproven, statusTime := now }) ∧
      t.evaluator = { events := [], inFlight := false, changed := [], pass := none } ∧
      (∀ i : IndicationIdx,
        (s.tables.active.indications[i] = none → t.indications[i] = s.indications[i]) ∧
        (∀ e, s.tables.active.indications[i] = some e →
          t.indications[i] = { s.indications[i] with code := some e.doubt, changeTime := now })) ∧
      (∀ n : ConditionIdx, t.conditions.enables[n] = s.conditions.enables[n] ∧
        (t.conditions.live[n] = true ↔ liveAfter n) ∧
        (t.conditions.latched[n] = true ↔ s.conditions.enables[n] = true ∧ liveAfter n)) ∧
      t.conditions.waiting = [] ∧
      t.report =
        { records := { subject := .restarted, value := .restarted, firstTime := now, lastTime := now, count := 1
                       timeValid := s.time.valid } ::
            ((List.finRange 11).filter fun n => t.conditions.latched[n]).map fun n =>
              { subject := .condition n, value := .condition n, firstTime := now, lastTime := now, count := 1
                timeValid := s.time.valid }
          resyncNeeded := false, refused := 0, high := false, frameNumber := 0 } ∧
      t.reader = { s.reader with train := .none, urgent := some 0 } ∧
      t.tables = { s.tables with checker := .idle } ∧
      t.link =
        { ownNode := s.link.ownNode, range := s.link.range, downward := [], downstreamTx := s.link.downstreamTx
          forward := [], upstreamTx := s.link.upstreamTx, promises := 0, requests := [], deferred := []
          responses :=
            [{ frame := { destination := nodeByte q.source, source := nodeByte s.link.ownNode, kind := 2, tag := q.tag
                          payload := [0x03#8, 0] }, train := false }]
          counters := { upstreamCrc := 0, downstreamCrc := 0, unroutable := 0, wrongKind := 0, downwardDrops := 0
                        forwardDrops := 0, requestDrops := 0, broadcastDrops := 0 }
          lastGranted := .own } ∧
      t.time = s.time ∧ t.inbox = s.inbox ∧ t.choices = s.choices ∧ t.pending = s.pending

/-! ### CARD CONTROL, the Time Base and the conditions -/

/-- CARD CONTROL in every card state: READMIT makes a FAULTY card WAITING or ABSENT by its carrier flag with its runs 0 and
no window, and changes no other card; CLEAR_PROVING clears the map, the status and the clean run; CLEAR_COUNTERS clears the
eight counters. Each is answered OK, with the results of the card's change; a card number above 15 is answered FIELD and
changes nothing. -/
def Obligations.CardControlActsOnOneCard : Prop :=
  ∀ (s : State) (q : Request) (card action : Byte), s.ConditionsLaw → s.Serves q →
    q.payload = [0x10#8, card, action] →
    ∀ command : Instr, (command, action) ∈ [(Instr.readmit, 1#8), (.clearProving, 2#8), (.clearCounters, 3#8)] →
      ∃ t, exec command s = .next t ∧ s.linkOtherwiseSame t ∧
        (15 < card.toNat → s.Answered t q 3 [] ∧ s.changesOnly t [.link]) ∧
        ∀ n : CardIdx, n.val = card.toNat →
          let c := s.cards[n]
          let after : CardContext :=
            if action = 1 then
              match c.state with
              | .faulty _ =>
                { c with
                  state := if (s.lanes[n]).carrier then .waiting else .absent
                  window := none, earlyRun := 0, readmissionRun := 0 }
              | _ => c
            else if action = 2 then { c with errorMap := 0, proving := .ok, cleanRun := 0 }
            else
              { c with
                counters := { accepted := 0, early := 0, lateExpiries := 0, mismatches := 0, dirtyProving := 0
                              flagDisagreements := 0, queueDrops := 0, stale := 0 } }
          s.Answered t q 0 [] ∧
            s.CardStep (t.setLink s.link) n s.time.counter s.inbox[n] s.frameQueue after

/-- TIME SET loads the counter and sets the time-valid flag; card windows, the measure of frames on their way and the
running refresh timer move with the counter, and stamps do not; TIME_INVALID is not live. One for the own node is
answered OK with the value; a broadcast is not answered. A millisecond counts the counter up by 1, wrapping, and changes
nothing else. A frame's stamp stands and its measure moves. The Time Base keeps its latest changes, from the latest
millisecond but one on (log 3). -/
def Obligations.TimeSetAndMillisecond : Prop :=
  (∀ (s : State) (q : Request) (a b c d : Byte), s.conditions.waiting = [] → q.payload = [0x40#8, a, b, c, d] →
    s.swapping = false → s.link.requests = [q] →
    let value := ofBe32 a b c d
    let amount := value - s.time.counter
    ∃ t, exec .timeSet s = .next t ∧
      t.time = { counter := value, valid := true
                 changes := { before := s.time.counter, shift := amount, millisecond := false } :: s.time.changes } ∧
      (∀ n : CardIdx, t.cards[n] = { s.cards[n] with
        window := (s.cards[n]).window.map fun w =>
          { reference := w.reference + amount, openTime := w.openTime + amount, closeTime := w.closeTime + amount } }) ∧
      (∀ n : CardIdx, t.inbox[n] = (s.inbox[n]).map fun e => match e with
        | .frame f => .frame { f with shift := f.shift + amount }
        | .carrierRise => .carrierRise
        | .carrierFall => .carrierFall) ∧
      t.reader = { s.reader with nextExpiry := s.reader.nextExpiry.map fun x => x + amount } ∧
      t.conditions = { s.conditions with live := s.conditions.live.set cTimeInvalid false } ∧
      (q.broadcast = false → q.promised = true → s.link.promises = 1 →
        s.Answered t q 0 [a, b, c, d] ∧ s.linkOtherwiseSame t) ∧
      (q.broadcast = true → q.promised = false → t.link = { s.link with requests := [] }) ∧
      s.changesOnly t [.time, .cards, .inbox, .reader, .conditions, .link]) ∧
  ∀ (s : State) (sets older : List TimeChange), s.time.changes = sets ++ older →
    (∀ c ∈ sets, c.millisecond = false) → (∀ c, older.head? = some c → c.millisecond = true) →
    exec .timeBaseMillisecond s = .next (s.setTime
      { counter := s.time.counter + 1, valid := s.time.valid
        changes := { before := s.time.counter, shift := 0, millisecond := true } :: sets })

/-- CONDITION ENABLE replaces every enable; a condition newly enabled latches when it is live, one no longer enabled is no
longer latched, and the others keep their latch. CONDITION ACK clears the latch of each named condition, and one that is
enabled and live latches again at once. Each latch leaves a CONDITION record in a Report Queue with room. Both answer OK
with the flags as they stand, and FIELD, with nothing changed, where the set names a condition above 10. When the queue
takes the records is free (log 4): the last claims are made for a queue with room for all of them. Both then find a
pass that may be in flight complete (log 9). -/
def Obligations.ConditionEnableAndAck : Prop :=
  ∀ (s : State) (q : Request) (lo hi : Byte), s.ConditionsLaw → s.Serves q →
    let named (n : ConditionIdx) : Bool := if n.val < 8 then lo.getLsbD n.val else hi.getLsbD (n.val - 8)
    let above := ∃ k : Nat, 3 ≤ k ∧ k < 8 ∧ hi.getLsbD k = true
    let set (bytes : List Byte) (v : Vector Bool 11) : Prop :=
      bytes.length = 2 ∧ ∀ n : ConditionIdx, (byteAt bytes (n.val / 8)).getLsbD (n.val % 8) = v[n]
    let latches (t : State) (n : ConditionIdx) (latch renewed : Bool) : Prop :=
      (latch = true → t.conditions.latched[n] = true) ∧
      (s.report.records.length ≤ 181 → t.conditions.latched[n] = latch ∧ t.conditions.live[n] = s.conditions.live[n] ∧
        (renewed = true → ∃ r ∈ t.report.records, r.subject = .condition n ∧ r.value = .condition n ∧
          r.lastTime = s.time.counter))
    (q.payload = [0x42#8, lo, hi] →
      ∃ t, exec .conditionEnable s = .next t ∧ s.linkOtherwiseSame t ∧
        (above → s.Answered t q 3 [] ∧ s.changesOnly t [.link]) ∧
        (¬above → s.changesOnly t [.conditions, .report, .link, .choices, .evaluator] ∧
          s.FoundFrom t 1280 ∧
          (∃ enables latched : List Byte, set enables t.conditions.enables ∧ set latched t.conditions.latched ∧
            s.Answered t q 0 (enables ++ latched)) ∧
          ∀ n : ConditionIdx, t.conditions.enables[n] = named n ∧
            (named n = false → t.conditions.latched[n] = false) ∧
            latches t n
              (named n && if s.conditions.enables[n] then s.conditions.latched[n] else s.conditions.live[n])
              (named n && !s.conditions.enables[n] && s.conditions.live[n]))) ∧
    (q.payload = [0x43#8, lo, hi] →
      ∃ t, exec .conditionAck s = .next t ∧ s.linkOtherwiseSame t ∧
        (above → s.Answered t q 3 [] ∧ s.changesOnly t [.link]) ∧
        (¬above → s.changesOnly t [.conditions, .report, .link, .choices, .evaluator] ∧
          s.FoundFrom t 1280 ∧ t.conditions.enables = s.conditions.enables ∧
          (∃ latched : List Byte, set latched t.conditions.latched ∧ s.Answered t q 0 latched) ∧
          ∀ n : ConditionIdx,
            latches t n
              (if named n then s.conditions.enables[n] && s.conditions.live[n] else s.conditions.latched[n])
              (named n && s.conditions.enables[n] && s.conditions.live[n])))

/-! ### The laws of the device, kept by every step -/

/-- Every step keeps the bounds of the Card Frame Queue, of the desk link's buffers, promises and Response Queue, the
routing law on the frames that wait to go down, the Image Reader's law, and the Report Queue's: at most 256 records, one
for each subject. And it keeps this law: a card event in flight stands among the events sent, with no conversion with a
relay pass and no swap in flight beside it. Which event is in flight, and not only waiting, is a flag of the model's own,
its choice of log 31. -/
def Obligations.EveryStepKeepsTheQueuesLawful : Prop :=
  ∀ s t : State, step s = .next t →
    (s.FrameQueueLaw → t.FrameQueueLaw) ∧ (s.LinkLaw → t.LinkLaw) ∧ (s.ReaderLaw → t.ReaderLaw) ∧
      (s.ReportLaw → t.ReportLaw) ∧ (s.EvaluatorLaw → t.EvaluatorLaw)

/-- Every step keeps the conditions lawful: each live value as its source stands, each latched condition enabled, each
enabled live condition latched. -/
def Obligations.EveryStepKeepsTheConditionsLawful : Prop :=
  ∀ s t : State, step s = .next t → s.ConditionsLaw → t.ConditionsLaw

/-- Every step keeps the cards lawful, and every known flag as its card's state and proving error map give it. -/
def Obligations.EveryStepKeepsTheCardsLawful : Prop :=
  ∀ s t : State, step s = .next t → s.CardsLaw → t.CardsLaw

/-- Every step keeps the tables lawful: the Active bank is the empty bank or one that passed every commit check, and one
swap at most is waiting or in progress. -/
def Obligations.EveryStepKeepsTheTablesLawful : Prop :=
  ∀ s t : State, step s = .next t → s.TablesLaw → t.TablesLaw

/-- Every step keeps the relays lawful under lawful tables; and it keeps the law that a proven relay has all its inputs
known, and that every relay of a card out of service is UNPROVEN, but for what a waiting event will still take away. -/
def Obligations.EveryStepKeepsTheRelaysLawful : Prop :=
  ∀ s t : State, step s = .next t →
    (s.TablesLaw → s.RelaysLaw → t.RelaysLaw) ∧ (s.CardsLaw → s.KnownLaw → t.KnownLaw) ∧
      (s.OutOfServiceLaw → t.OutOfServiceLaw)

/-- Every step keeps the Indication Image lawful: exactly the defined indications hold a code, and one with an input in
doubt shows its doubt code. -/
def Obligations.EveryStepKeepsTheIndicationsLawful : Prop :=
  ∀ s t : State, step s = .next t → s.IndicationsLaw → t.IndicationsLaw
end

