-- ==== Sys2Proof/Laws/State.lean ====
section
/-! SUPPORT. What each field of State is after each update: one lemma per field per update, true by rfl. -/

namespace Sys2Proof.Laws

open Sys2Proof.Machine

@[simp] theorem setTime_time (s : State) (v : TimeBase) : (s.setTime v).time = v := rfl
@[simp] theorem setTime_lanes (s : State) (v : TimeBase) : (s.setTime v).lanes = s.lanes := rfl
@[simp] theorem setTime_inbox (s : State) (v : TimeBase) : (s.setTime v).inbox = s.inbox := rfl
@[simp] theorem setTime_cards (s : State) (v : TimeBase) : (s.setTime v).cards = s.cards := rfl
@[simp] theorem setTime_frameQueue (s : State) (v : TimeBase) : (s.setTime v).frameQueue = s.frameQueue := rfl
@[simp] theorem setTime_engine (s : State) (v : TimeBase) : (s.setTime v).engine = s.engine := rfl
@[simp] theorem setTime_input (s : State) (v : TimeBase) : (s.setTime v).input = s.input := rfl
@[simp] theorem setTime_relays (s : State) (v : TimeBase) : (s.setTime v).relays = s.relays := rfl
@[simp] theorem setTime_evaluator (s : State) (v : TimeBase) : (s.setTime v).evaluator = s.evaluator := rfl
@[simp] theorem setTime_indications (s : State) (v : TimeBase) : (s.setTime v).indications = s.indications := rfl
@[simp] theorem setTime_report (s : State) (v : TimeBase) : (s.setTime v).report = s.report := rfl
@[simp] theorem setTime_reader (s : State) (v : TimeBase) : (s.setTime v).reader = s.reader := rfl
@[simp] theorem setTime_tables (s : State) (v : TimeBase) : (s.setTime v).tables = s.tables := rfl
@[simp] theorem setTime_link (s : State) (v : TimeBase) : (s.setTime v).link = s.link := rfl
@[simp] theorem setTime_conditions (s : State) (v : TimeBase) : (s.setTime v).conditions = s.conditions := rfl
@[simp] theorem setTime_choices (s : State) (v : TimeBase) : (s.setTime v).choices = s.choices := rfl
@[simp] theorem setTime_pending (s : State) (v : TimeBase) : (s.setTime v).pending = s.pending := rfl

@[simp] theorem setLanes_time (s : State) (v : Vector LaneReceiver 16) : (s.setLanes v).time = s.time := rfl
@[simp] theorem setLanes_lanes (s : State) (v : Vector LaneReceiver 16) : (s.setLanes v).lanes = v := rfl
@[simp] theorem setLanes_inbox (s : State) (v : Vector LaneReceiver 16) : (s.setLanes v).inbox = s.inbox := rfl
@[simp] theorem setLanes_cards (s : State) (v : Vector LaneReceiver 16) : (s.setLanes v).cards = s.cards := rfl
@[simp] theorem setLanes_frameQueue (s : State) (v : Vector LaneReceiver 16) : (s.setLanes v).frameQueue = s.frameQueue := rfl
@[simp] theorem setLanes_engine (s : State) (v : Vector LaneReceiver 16) : (s.setLanes v).engine = s.engine := rfl
@[simp] theorem setLanes_input (s : State) (v : Vector LaneReceiver 16) : (s.setLanes v).input = s.input := rfl
@[simp] theorem setLanes_relays (s : State) (v : Vector LaneReceiver 16) : (s.setLanes v).relays = s.relays := rfl
@[simp] theorem setLanes_evaluator (s : State) (v : Vector LaneReceiver 16) : (s.setLanes v).evaluator = s.evaluator := rfl
@[simp] theorem setLanes_indications (s : State) (v : Vector LaneReceiver 16) : (s.setLanes v).indications = s.indications := rfl
@[simp] theorem setLanes_report (s : State) (v : Vector LaneReceiver 16) : (s.setLanes v).report = s.report := rfl
@[simp] theorem setLanes_reader (s : State) (v : Vector LaneReceiver 16) : (s.setLanes v).reader = s.reader := rfl
@[simp] theorem setLanes_tables (s : State) (v : Vector LaneReceiver 16) : (s.setLanes v).tables = s.tables := rfl
@[simp] theorem setLanes_link (s : State) (v : Vector LaneReceiver 16) : (s.setLanes v).link = s.link := rfl
@[simp] theorem setLanes_conditions (s : State) (v : Vector LaneReceiver 16) : (s.setLanes v).conditions = s.conditions := rfl
@[simp] theorem setLanes_choices (s : State) (v : Vector LaneReceiver 16) : (s.setLanes v).choices = s.choices := rfl
@[simp] theorem setLanes_pending (s : State) (v : Vector LaneReceiver 16) : (s.setLanes v).pending = s.pending := rfl

@[simp] theorem setInbox_time (s : State) (v : Vector (List LaneEvent) 16) : (s.setInbox v).time = s.time := rfl
@[simp] theorem setInbox_lanes (s : State) (v : Vector (List LaneEvent) 16) : (s.setInbox v).lanes = s.lanes := rfl
@[simp] theorem setInbox_inbox (s : State) (v : Vector (List LaneEvent) 16) : (s.setInbox v).inbox = v := rfl
@[simp] theorem setInbox_cards (s : State) (v : Vector (List LaneEvent) 16) : (s.setInbox v).cards = s.cards := rfl
@[simp] theorem setInbox_frameQueue (s : State) (v : Vector (List LaneEvent) 16) : (s.setInbox v).frameQueue = s.frameQueue := rfl
@[simp] theorem setInbox_engine (s : State) (v : Vector (List LaneEvent) 16) : (s.setInbox v).engine = s.engine := rfl
@[simp] theorem setInbox_input (s : State) (v : Vector (List LaneEvent) 16) : (s.setInbox v).input = s.input := rfl
@[simp] theorem setInbox_relays (s : State) (v : Vector (List LaneEvent) 16) : (s.setInbox v).relays = s.relays := rfl
@[simp] theorem setInbox_evaluator (s : State) (v : Vector (List LaneEvent) 16) : (s.setInbox v).evaluator = s.evaluator := rfl
@[simp] theorem setInbox_indications (s : State) (v : Vector (List LaneEvent) 16) : (s.setInbox v).indications = s.indications := rfl
@[simp] theorem setInbox_report (s : State) (v : Vector (List LaneEvent) 16) : (s.setInbox v).report = s.report := rfl
@[simp] theorem setInbox_reader (s : State) (v : Vector (List LaneEvent) 16) : (s.setInbox v).reader = s.reader := rfl
@[simp] theorem setInbox_tables (s : State) (v : Vector (List LaneEvent) 16) : (s.setInbox v).tables = s.tables := rfl
@[simp] theorem setInbox_link (s : State) (v : Vector (List LaneEvent) 16) : (s.setInbox v).link = s.link := rfl
@[simp] theorem setInbox_conditions (s : State) (v : Vector (List LaneEvent) 16) : (s.setInbox v).conditions = s.conditions := rfl
@[simp] theorem setInbox_choices (s : State) (v : Vector (List LaneEvent) 16) : (s.setInbox v).choices = s.choices := rfl
@[simp] theorem setInbox_pending (s : State) (v : Vector (List LaneEvent) 16) : (s.setInbox v).pending = s.pending := rfl

@[simp] theorem setCards_time (s : State) (v : Vector CardContext 16) : (s.setCards v).time = s.time := rfl
@[simp] theorem setCards_lanes (s : State) (v : Vector CardContext 16) : (s.setCards v).lanes = s.lanes := rfl
@[simp] theorem setCards_inbox (s : State) (v : Vector CardContext 16) : (s.setCards v).inbox = s.inbox := rfl
@[simp] theorem setCards_cards (s : State) (v : Vector CardContext 16) : (s.setCards v).cards = v := rfl
@[simp] theorem setCards_frameQueue (s : State) (v : Vector CardContext 16) : (s.setCards v).frameQueue = s.frameQueue := rfl
@[simp] theorem setCards_engine (s : State) (v : Vector CardContext 16) : (s.setCards v).engine = s.engine := rfl
@[simp] theorem setCards_input (s : State) (v : Vector CardContext 16) : (s.setCards v).input = s.input := rfl
@[simp] theorem setCards_relays (s : State) (v : Vector CardContext 16) : (s.setCards v).relays = s.relays := rfl
@[simp] theorem setCards_evaluator (s : State) (v : Vector CardContext 16) : (s.setCards v).evaluator = s.evaluator := rfl
@[simp] theorem setCards_indications (s : State) (v : Vector CardContext 16) : (s.setCards v).indications = s.indications := rfl
@[simp] theorem setCards_report (s : State) (v : Vector CardContext 16) : (s.setCards v).report = s.report := rfl
@[simp] theorem setCards_reader (s : State) (v : Vector CardContext 16) : (s.setCards v).reader = s.reader := rfl
@[simp] theorem setCards_tables (s : State) (v : Vector CardContext 16) : (s.setCards v).tables = s.tables := rfl
@[simp] theorem setCards_link (s : State) (v : Vector CardContext 16) : (s.setCards v).link = s.link := rfl
@[simp] theorem setCards_conditions (s : State) (v : Vector CardContext 16) : (s.setCards v).conditions = s.conditions := rfl
@[simp] theorem setCards_choices (s : State) (v : Vector CardContext 16) : (s.setCards v).choices = s.choices := rfl
@[simp] theorem setCards_pending (s : State) (v : Vector CardContext 16) : (s.setCards v).pending = s.pending := rfl

@[simp] theorem setFrameQueue_time (s : State) (v : List QueueEntry) : (s.setFrameQueue v).time = s.time := rfl
@[simp] theorem setFrameQueue_lanes (s : State) (v : List QueueEntry) : (s.setFrameQueue v).lanes = s.lanes := rfl
@[simp] theorem setFrameQueue_inbox (s : State) (v : List QueueEntry) : (s.setFrameQueue v).inbox = s.inbox := rfl
@[simp] theorem setFrameQueue_cards (s : State) (v : List QueueEntry) : (s.setFrameQueue v).cards = s.cards := rfl
@[simp] theorem setFrameQueue_frameQueue (s : State) (v : List QueueEntry) : (s.setFrameQueue v).frameQueue = v := rfl
@[simp] theorem setFrameQueue_engine (s : State) (v : List QueueEntry) : (s.setFrameQueue v).engine = s.engine := rfl
@[simp] theorem setFrameQueue_input (s : State) (v : List QueueEntry) : (s.setFrameQueue v).input = s.input := rfl
@[simp] theorem setFrameQueue_relays (s : State) (v : List QueueEntry) : (s.setFrameQueue v).relays = s.relays := rfl
@[simp] theorem setFrameQueue_evaluator (s : State) (v : List QueueEntry) : (s.setFrameQueue v).evaluator = s.evaluator := rfl
@[simp] theorem setFrameQueue_indications (s : State) (v : List QueueEntry) : (s.setFrameQueue v).indications = s.indications := rfl
@[simp] theorem setFrameQueue_report (s : State) (v : List QueueEntry) : (s.setFrameQueue v).report = s.report := rfl
@[simp] theorem setFrameQueue_reader (s : State) (v : List QueueEntry) : (s.setFrameQueue v).reader = s.reader := rfl
@[simp] theorem setFrameQueue_tables (s : State) (v : List QueueEntry) : (s.setFrameQueue v).tables = s.tables := rfl
@[simp] theorem setFrameQueue_link (s : State) (v : List QueueEntry) : (s.setFrameQueue v).link = s.link := rfl
@[simp] theorem setFrameQueue_conditions (s : State) (v : List QueueEntry) : (s.setFrameQueue v).conditions = s.conditions := rfl
@[simp] theorem setFrameQueue_choices (s : State) (v : List QueueEntry) : (s.setFrameQueue v).choices = s.choices := rfl
@[simp] theorem setFrameQueue_pending (s : State) (v : List QueueEntry) : (s.setFrameQueue v).pending = s.pending := rfl

@[simp] theorem setEngine_time (s : State) (v : Engine) : (s.setEngine v).time = s.time := rfl
@[simp] theorem setEngine_lanes (s : State) (v : Engine) : (s.setEngine v).lanes = s.lanes := rfl
@[simp] theorem setEngine_inbox (s : State) (v : Engine) : (s.setEngine v).inbox = s.inbox := rfl
@[simp] theorem setEngine_cards (s : State) (v : Engine) : (s.setEngine v).cards = s.cards := rfl
@[simp] theorem setEngine_frameQueue (s : State) (v : Engine) : (s.setEngine v).frameQueue = s.frameQueue := rfl
@[simp] theorem setEngine_engine (s : State) (v : Engine) : (s.setEngine v).engine = v := rfl
@[simp] theorem setEngine_input (s : State) (v : Engine) : (s.setEngine v).input = s.input := rfl
@[simp] theorem setEngine_relays (s : State) (v : Engine) : (s.setEngine v).relays = s.relays := rfl
@[simp] theorem setEngine_evaluator (s : State) (v : Engine) : (s.setEngine v).evaluator = s.evaluator := rfl
@[simp] theorem setEngine_indications (s : State) (v : Engine) : (s.setEngine v).indications = s.indications := rfl
@[simp] theorem setEngine_report (s : State) (v : Engine) : (s.setEngine v).report = s.report := rfl
@[simp] theorem setEngine_reader (s : State) (v : Engine) : (s.setEngine v).reader = s.reader := rfl
@[simp] theorem setEngine_tables (s : State) (v : Engine) : (s.setEngine v).tables = s.tables := rfl
@[simp] theorem setEngine_link (s : State) (v : Engine) : (s.setEngine v).link = s.link := rfl
@[simp] theorem setEngine_conditions (s : State) (v : Engine) : (s.setEngine v).conditions = s.conditions := rfl
@[simp] theorem setEngine_choices (s : State) (v : Engine) : (s.setEngine v).choices = s.choices := rfl
@[simp] theorem setEngine_pending (s : State) (v : Engine) : (s.setEngine v).pending = s.pending := rfl

@[simp] theorem setInput_time (s : State) (v : InputImage) : (s.setInput v).time = s.time := rfl
@[simp] theorem setInput_lanes (s : State) (v : InputImage) : (s.setInput v).lanes = s.lanes := rfl
@[simp] theorem setInput_inbox (s : State) (v : InputImage) : (s.setInput v).inbox = s.inbox := rfl
@[simp] theorem setInput_cards (s : State) (v : InputImage) : (s.setInput v).cards = s.cards := rfl
@[simp] theorem setInput_frameQueue (s : State) (v : InputImage) : (s.setInput v).frameQueue = s.frameQueue := rfl
@[simp] theorem setInput_engine (s : State) (v : InputImage) : (s.setInput v).engine = s.engine := rfl
@[simp] theorem setInput_input (s : State) (v : InputImage) : (s.setInput v).input = v := rfl
@[simp] theorem setInput_relays (s : State) (v : InputImage) : (s.setInput v).relays = s.relays := rfl
@[simp] theorem setInput_evaluator (s : State) (v : InputImage) : (s.setInput v).evaluator = s.evaluator := rfl
@[simp] theorem setInput_indications (s : State) (v : InputImage) : (s.setInput v).indications = s.indications := rfl
@[simp] theorem setInput_report (s : State) (v : InputImage) : (s.setInput v).report = s.report := rfl
@[simp] theorem setInput_reader (s : State) (v : InputImage) : (s.setInput v).reader = s.reader := rfl
@[simp] theorem setInput_tables (s : State) (v : InputImage) : (s.setInput v).tables = s.tables := rfl
@[simp] theorem setInput_link (s : State) (v : InputImage) : (s.setInput v).link = s.link := rfl
@[simp] theorem setInput_conditions (s : State) (v : InputImage) : (s.setInput v).conditions = s.conditions := rfl
@[simp] theorem setInput_choices (s : State) (v : InputImage) : (s.setInput v).choices = s.choices := rfl
@[simp] theorem setInput_pending (s : State) (v : InputImage) : (s.setInput v).pending = s.pending := rfl

@[simp] theorem setRelays_time (s : State) (v : Vector RelayRuntime 768) : (s.setRelays v).time = s.time := rfl
@[simp] theorem setRelays_lanes (s : State) (v : Vector RelayRuntime 768) : (s.setRelays v).lanes = s.lanes := rfl
@[simp] theorem setRelays_inbox (s : State) (v : Vector RelayRuntime 768) : (s.setRelays v).inbox = s.inbox := rfl
@[simp] theorem setRelays_cards (s : State) (v : Vector RelayRuntime 768) : (s.setRelays v).cards = s.cards := rfl
@[simp] theorem setRelays_frameQueue (s : State) (v : Vector RelayRuntime 768) : (s.setRelays v).frameQueue = s.frameQueue := rfl
@[simp] theorem setRelays_engine (s : State) (v : Vector RelayRuntime 768) : (s.setRelays v).engine = s.engine := rfl
@[simp] theorem setRelays_input (s : State) (v : Vector RelayRuntime 768) : (s.setRelays v).input = s.input := rfl
@[simp] theorem setRelays_relays (s : State) (v : Vector RelayRuntime 768) : (s.setRelays v).relays = v := rfl
@[simp] theorem setRelays_evaluator (s : State) (v : Vector RelayRuntime 768) : (s.setRelays v).evaluator = s.evaluator := rfl
@[simp] theorem setRelays_indications (s : State) (v : Vector RelayRuntime 768) : (s.setRelays v).indications = s.indications := rfl
@[simp] theorem setRelays_report (s : State) (v : Vector RelayRuntime 768) : (s.setRelays v).report = s.report := rfl
@[simp] theorem setRelays_reader (s : State) (v : Vector RelayRuntime 768) : (s.setRelays v).reader = s.reader := rfl
@[simp] theorem setRelays_tables (s : State) (v : Vector RelayRuntime 768) : (s.setRelays v).tables = s.tables := rfl
@[simp] theorem setRelays_link (s : State) (v : Vector RelayRuntime 768) : (s.setRelays v).link = s.link := rfl
@[simp] theorem setRelays_conditions (s : State) (v : Vector RelayRuntime 768) : (s.setRelays v).conditions = s.conditions := rfl
@[simp] theorem setRelays_choices (s : State) (v : Vector RelayRuntime 768) : (s.setRelays v).choices = s.choices := rfl
@[simp] theorem setRelays_pending (s : State) (v : Vector RelayRuntime 768) : (s.setRelays v).pending = s.pending := rfl

@[simp] theorem setEvaluator_time (s : State) (v : Evaluator) : (s.setEvaluator v).time = s.time := rfl
@[simp] theorem setEvaluator_lanes (s : State) (v : Evaluator) : (s.setEvaluator v).lanes = s.lanes := rfl
@[simp] theorem setEvaluator_inbox (s : State) (v : Evaluator) : (s.setEvaluator v).inbox = s.inbox := rfl
@[simp] theorem setEvaluator_cards (s : State) (v : Evaluator) : (s.setEvaluator v).cards = s.cards := rfl
@[simp] theorem setEvaluator_frameQueue (s : State) (v : Evaluator) : (s.setEvaluator v).frameQueue = s.frameQueue := rfl
@[simp] theorem setEvaluator_engine (s : State) (v : Evaluator) : (s.setEvaluator v).engine = s.engine := rfl
@[simp] theorem setEvaluator_input (s : State) (v : Evaluator) : (s.setEvaluator v).input = s.input := rfl
@[simp] theorem setEvaluator_relays (s : State) (v : Evaluator) : (s.setEvaluator v).relays = s.relays := rfl
@[simp] theorem setEvaluator_evaluator (s : State) (v : Evaluator) : (s.setEvaluator v).evaluator = v := rfl
@[simp] theorem setEvaluator_indications (s : State) (v : Evaluator) : (s.setEvaluator v).indications = s.indications := rfl
@[simp] theorem setEvaluator_report (s : State) (v : Evaluator) : (s.setEvaluator v).report = s.report := rfl
@[simp] theorem setEvaluator_reader (s : State) (v : Evaluator) : (s.setEvaluator v).reader = s.reader := rfl
@[simp] theorem setEvaluator_tables (s : State) (v : Evaluator) : (s.setEvaluator v).tables = s.tables := rfl
@[simp] theorem setEvaluator_link (s : State) (v : Evaluator) : (s.setEvaluator v).link = s.link := rfl
@[simp] theorem setEvaluator_conditions (s : State) (v : Evaluator) : (s.setEvaluator v).conditions = s.conditions := rfl
@[simp] theorem setEvaluator_choices (s : State) (v : Evaluator) : (s.setEvaluator v).choices = s.choices := rfl
@[simp] theorem setEvaluator_pending (s : State) (v : Evaluator) : (s.setEvaluator v).pending = s.pending := rfl

@[simp] theorem setIndications_time (s : State) (v : Vector ImageEntry 512) : (s.setIndications v).time = s.time := rfl
@[simp] theorem setIndications_lanes (s : State) (v : Vector ImageEntry 512) : (s.setIndications v).lanes = s.lanes := rfl
@[simp] theorem setIndications_inbox (s : State) (v : Vector ImageEntry 512) : (s.setIndications v).inbox = s.inbox := rfl
@[simp] theorem setIndications_cards (s : State) (v : Vector ImageEntry 512) : (s.setIndications v).cards = s.cards := rfl
@[simp] theorem setIndications_frameQueue (s : State) (v : Vector ImageEntry 512) : (s.setIndications v).frameQueue = s.frameQueue := rfl
@[simp] theorem setIndications_engine (s : State) (v : Vector ImageEntry 512) : (s.setIndications v).engine = s.engine := rfl
@[simp] theorem setIndications_input (s : State) (v : Vector ImageEntry 512) : (s.setIndications v).input = s.input := rfl
@[simp] theorem setIndications_relays (s : State) (v : Vector ImageEntry 512) : (s.setIndications v).relays = s.relays := rfl
@[simp] theorem setIndications_evaluator (s : State) (v : Vector ImageEntry 512) : (s.setIndications v).evaluator = s.evaluator := rfl
@[simp] theorem setIndications_indications (s : State) (v : Vector ImageEntry 512) : (s.setIndications v).indications = v := rfl
@[simp] theorem setIndications_report (s : State) (v : Vector ImageEntry 512) : (s.setIndications v).report = s.report := rfl
@[simp] theorem setIndications_reader (s : State) (v : Vector ImageEntry 512) : (s.setIndications v).reader = s.reader := rfl
@[simp] theorem setIndications_tables (s : State) (v : Vector ImageEntry 512) : (s.setIndications v).tables = s.tables := rfl
@[simp] theorem setIndications_link (s : State) (v : Vector ImageEntry 512) : (s.setIndications v).link = s.link := rfl
@[simp] theorem setIndications_conditions (s : State) (v : Vector ImageEntry 512) : (s.setIndications v).conditions = s.conditions := rfl
@[simp] theorem setIndications_choices (s : State) (v : Vector ImageEntry 512) : (s.setIndications v).choices = s.choices := rfl
@[simp] theorem setIndications_pending (s : State) (v : Vector ImageEntry 512) : (s.setIndications v).pending = s.pending := rfl

@[simp] theorem setReport_time (s : State) (v : ReportQueue) : (s.setReport v).time = s.time := rfl
@[simp] theorem setReport_lanes (s : State) (v : ReportQueue) : (s.setReport v).lanes = s.lanes := rfl
@[simp] theorem setReport_inbox (s : State) (v : ReportQueue) : (s.setReport v).inbox = s.inbox := rfl
@[simp] theorem setReport_cards (s : State) (v : ReportQueue) : (s.setReport v).cards = s.cards := rfl
@[simp] theorem setReport_frameQueue (s : State) (v : ReportQueue) : (s.setReport v).frameQueue = s.frameQueue := rfl
@[simp] theorem setReport_engine (s : State) (v : ReportQueue) : (s.setReport v).engine = s.engine := rfl
@[simp] theorem setReport_input (s : State) (v : ReportQueue) : (s.setReport v).input = s.input := rfl
@[simp] theorem setReport_relays (s : State) (v : ReportQueue) : (s.setReport v).relays = s.relays := rfl
@[simp] theorem setReport_evaluator (s : State) (v : ReportQueue) : (s.setReport v).evaluator = s.evaluator := rfl
@[simp] theorem setReport_indications (s : State) (v : ReportQueue) : (s.setReport v).indications = s.indications := rfl
@[simp] theorem setReport_report (s : State) (v : ReportQueue) : (s.setReport v).report = v := rfl
@[simp] theorem setReport_reader (s : State) (v : ReportQueue) : (s.setReport v).reader = s.reader := rfl
@[simp] theorem setReport_tables (s : State) (v : ReportQueue) : (s.setReport v).tables = s.tables := rfl
@[simp] theorem setReport_link (s : State) (v : ReportQueue) : (s.setReport v).link = s.link := rfl
@[simp] theorem setReport_conditions (s : State) (v : ReportQueue) : (s.setReport v).conditions = s.conditions := rfl
@[simp] theorem setReport_choices (s : State) (v : ReportQueue) : (s.setReport v).choices = s.choices := rfl
@[simp] theorem setReport_pending (s : State) (v : ReportQueue) : (s.setReport v).pending = s.pending := rfl

@[simp] theorem setReader_time (s : State) (v : ImageReader) : (s.setReader v).time = s.time := rfl
@[simp] theorem setReader_lanes (s : State) (v : ImageReader) : (s.setReader v).lanes = s.lanes := rfl
@[simp] theorem setReader_inbox (s : State) (v : ImageReader) : (s.setReader v).inbox = s.inbox := rfl
@[simp] theorem setReader_cards (s : State) (v : ImageReader) : (s.setReader v).cards = s.cards := rfl
@[simp] theorem setReader_frameQueue (s : State) (v : ImageReader) : (s.setReader v).frameQueue = s.frameQueue := rfl
@[simp] theorem setReader_engine (s : State) (v : ImageReader) : (s.setReader v).engine = s.engine := rfl
@[simp] theorem setReader_input (s : State) (v : ImageReader) : (s.setReader v).input = s.input := rfl
@[simp] theorem setReader_relays (s : State) (v : ImageReader) : (s.setReader v).relays = s.relays := rfl
@[simp] theorem setReader_evaluator (s : State) (v : ImageReader) : (s.setReader v).evaluator = s.evaluator := rfl
@[simp] theorem setReader_indications (s : State) (v : ImageReader) : (s.setReader v).indications = s.indications := rfl
@[simp] theorem setReader_report (s : State) (v : ImageReader) : (s.setReader v).report = s.report := rfl
@[simp] theorem setReader_reader (s : State) (v : ImageReader) : (s.setReader v).reader = v := rfl
@[simp] theorem setReader_tables (s : State) (v : ImageReader) : (s.setReader v).tables = s.tables := rfl
@[simp] theorem setReader_link (s : State) (v : ImageReader) : (s.setReader v).link = s.link := rfl
@[simp] theorem setReader_conditions (s : State) (v : ImageReader) : (s.setReader v).conditions = s.conditions := rfl
@[simp] theorem setReader_choices (s : State) (v : ImageReader) : (s.setReader v).choices = s.choices := rfl
@[simp] theorem setReader_pending (s : State) (v : ImageReader) : (s.setReader v).pending = s.pending := rfl

@[simp] theorem setTables_time (s : State) (v : TableStore) : (s.setTables v).time = s.time := rfl
@[simp] theorem setTables_lanes (s : State) (v : TableStore) : (s.setTables v).lanes = s.lanes := rfl
@[simp] theorem setTables_inbox (s : State) (v : TableStore) : (s.setTables v).inbox = s.inbox := rfl
@[simp] theorem setTables_cards (s : State) (v : TableStore) : (s.setTables v).cards = s.cards := rfl
@[simp] theorem setTables_frameQueue (s : State) (v : TableStore) : (s.setTables v).frameQueue = s.frameQueue := rfl
@[simp] theorem setTables_engine (s : State) (v : TableStore) : (s.setTables v).engine = s.engine := rfl
@[simp] theorem setTables_input (s : State) (v : TableStore) : (s.setTables v).input = s.input := rfl
@[simp] theorem setTables_relays (s : State) (v : TableStore) : (s.setTables v).relays = s.relays := rfl
@[simp] theorem setTables_evaluator (s : State) (v : TableStore) : (s.setTables v).evaluator = s.evaluator := rfl
@[simp] theorem setTables_indications (s : State) (v : TableStore) : (s.setTables v).indications = s.indications := rfl
@[simp] theorem setTables_report (s : State) (v : TableStore) : (s.setTables v).report = s.report := rfl
@[simp] theorem setTables_reader (s : State) (v : TableStore) : (s.setTables v).reader = s.reader := rfl
@[simp] theorem setTables_tables (s : State) (v : TableStore) : (s.setTables v).tables = v := rfl
@[simp] theorem setTables_link (s : State) (v : TableStore) : (s.setTables v).link = s.link := rfl
@[simp] theorem setTables_conditions (s : State) (v : TableStore) : (s.setTables v).conditions = s.conditions := rfl
@[simp] theorem setTables_choices (s : State) (v : TableStore) : (s.setTables v).choices = s.choices := rfl
@[simp] theorem setTables_pending (s : State) (v : TableStore) : (s.setTables v).pending = s.pending := rfl

@[simp] theorem setLink_time (s : State) (v : DeskLink) : (s.setLink v).time = s.time := rfl
@[simp] theorem setLink_lanes (s : State) (v : DeskLink) : (s.setLink v).lanes = s.lanes := rfl
@[simp] theorem setLink_inbox (s : State) (v : DeskLink) : (s.setLink v).inbox = s.inbox := rfl
@[simp] theorem setLink_cards (s : State) (v : DeskLink) : (s.setLink v).cards = s.cards := rfl
@[simp] theorem setLink_frameQueue (s : State) (v : DeskLink) : (s.setLink v).frameQueue = s.frameQueue := rfl
@[simp] theorem setLink_engine (s : State) (v : DeskLink) : (s.setLink v).engine = s.engine := rfl
@[simp] theorem setLink_input (s : State) (v : DeskLink) : (s.setLink v).input = s.input := rfl
@[simp] theorem setLink_relays (s : State) (v : DeskLink) : (s.setLink v).relays = s.relays := rfl
@[simp] theorem setLink_evaluator (s : State) (v : DeskLink) : (s.setLink v).evaluator = s.evaluator := rfl
@[simp] theorem setLink_indications (s : State) (v : DeskLink) : (s.setLink v).indications = s.indications := rfl
@[simp] theorem setLink_report (s : State) (v : DeskLink) : (s.setLink v).report = s.report := rfl
@[simp] theorem setLink_reader (s : State) (v : DeskLink) : (s.setLink v).reader = s.reader := rfl
@[simp] theorem setLink_tables (s : State) (v : DeskLink) : (s.setLink v).tables = s.tables := rfl
@[simp] theorem setLink_link (s : State) (v : DeskLink) : (s.setLink v).link = v := rfl
@[simp] theorem setLink_conditions (s : State) (v : DeskLink) : (s.setLink v).conditions = s.conditions := rfl
@[simp] theorem setLink_choices (s : State) (v : DeskLink) : (s.setLink v).choices = s.choices := rfl
@[simp] theorem setLink_pending (s : State) (v : DeskLink) : (s.setLink v).pending = s.pending := rfl

@[simp] theorem setConditions_time (s : State) (v : ConditionUnit) : (s.setConditions v).time = s.time := rfl
@[simp] theorem setConditions_lanes (s : State) (v : ConditionUnit) : (s.setConditions v).lanes = s.lanes := rfl
@[simp] theorem setConditions_inbox (s : State) (v : ConditionUnit) : (s.setConditions v).inbox = s.inbox := rfl
@[simp] theorem setConditions_cards (s : State) (v : ConditionUnit) : (s.setConditions v).cards = s.cards := rfl
@[simp] theorem setConditions_frameQueue (s : State) (v : ConditionUnit) : (s.setConditions v).frameQueue = s.frameQueue := rfl
@[simp] theorem setConditions_engine (s : State) (v : ConditionUnit) : (s.setConditions v).engine = s.engine := rfl
@[simp] theorem setConditions_input (s : State) (v : ConditionUnit) : (s.setConditions v).input = s.input := rfl
@[simp] theorem setConditions_relays (s : State) (v : ConditionUnit) : (s.setConditions v).relays = s.relays := rfl
@[simp] theorem setConditions_evaluator (s : State) (v : ConditionUnit) : (s.setConditions v).evaluator = s.evaluator := rfl
@[simp] theorem setConditions_indications (s : State) (v : ConditionUnit) : (s.setConditions v).indications = s.indications := rfl
@[simp] theorem setConditions_report (s : State) (v : ConditionUnit) : (s.setConditions v).report = s.report := rfl
@[simp] theorem setConditions_reader (s : State) (v : ConditionUnit) : (s.setConditions v).reader = s.reader := rfl
@[simp] theorem setConditions_tables (s : State) (v : ConditionUnit) : (s.setConditions v).tables = s.tables := rfl
@[simp] theorem setConditions_link (s : State) (v : ConditionUnit) : (s.setConditions v).link = s.link := rfl
@[simp] theorem setConditions_conditions (s : State) (v : ConditionUnit) : (s.setConditions v).conditions = v := rfl
@[simp] theorem setConditions_choices (s : State) (v : ConditionUnit) : (s.setConditions v).choices = s.choices := rfl
@[simp] theorem setConditions_pending (s : State) (v : ConditionUnit) : (s.setConditions v).pending = s.pending := rfl

@[simp] theorem setChoices_time (s : State) (v : Nat) : (s.setChoices v).time = s.time := rfl
@[simp] theorem setChoices_lanes (s : State) (v : Nat) : (s.setChoices v).lanes = s.lanes := rfl
@[simp] theorem setChoices_inbox (s : State) (v : Nat) : (s.setChoices v).inbox = s.inbox := rfl
@[simp] theorem setChoices_cards (s : State) (v : Nat) : (s.setChoices v).cards = s.cards := rfl
@[simp] theorem setChoices_frameQueue (s : State) (v : Nat) : (s.setChoices v).frameQueue = s.frameQueue := rfl
@[simp] theorem setChoices_engine (s : State) (v : Nat) : (s.setChoices v).engine = s.engine := rfl
@[simp] theorem setChoices_input (s : State) (v : Nat) : (s.setChoices v).input = s.input := rfl
@[simp] theorem setChoices_relays (s : State) (v : Nat) : (s.setChoices v).relays = s.relays := rfl
@[simp] theorem setChoices_evaluator (s : State) (v : Nat) : (s.setChoices v).evaluator = s.evaluator := rfl
@[simp] theorem setChoices_indications (s : State) (v : Nat) : (s.setChoices v).indications = s.indications := rfl
@[simp] theorem setChoices_report (s : State) (v : Nat) : (s.setChoices v).report = s.report := rfl
@[simp] theorem setChoices_reader (s : State) (v : Nat) : (s.setChoices v).reader = s.reader := rfl
@[simp] theorem setChoices_tables (s : State) (v : Nat) : (s.setChoices v).tables = s.tables := rfl
@[simp] theorem setChoices_link (s : State) (v : Nat) : (s.setChoices v).link = s.link := rfl
@[simp] theorem setChoices_conditions (s : State) (v : Nat) : (s.setChoices v).conditions = s.conditions := rfl
@[simp] theorem setChoices_choices (s : State) (v : Nat) : (s.setChoices v).choices = v := rfl
@[simp] theorem setChoices_pending (s : State) (v : Nat) : (s.setChoices v).pending = s.pending := rfl

@[simp] theorem setPending_time (s : State) (v : List Instr) : (s.setPending v).time = s.time := rfl
@[simp] theorem setPending_lanes (s : State) (v : List Instr) : (s.setPending v).lanes = s.lanes := rfl
@[simp] theorem setPending_inbox (s : State) (v : List Instr) : (s.setPending v).inbox = s.inbox := rfl
@[simp] theorem setPending_cards (s : State) (v : List Instr) : (s.setPending v).cards = s.cards := rfl
@[simp] theorem setPending_frameQueue (s : State) (v : List Instr) : (s.setPending v).frameQueue = s.frameQueue := rfl
@[simp] theorem setPending_engine (s : State) (v : List Instr) : (s.setPending v).engine = s.engine := rfl
@[simp] theorem setPending_input (s : State) (v : List Instr) : (s.setPending v).input = s.input := rfl
@[simp] theorem setPending_relays (s : State) (v : List Instr) : (s.setPending v).relays = s.relays := rfl
@[simp] theorem setPending_evaluator (s : State) (v : List Instr) : (s.setPending v).evaluator = s.evaluator := rfl
@[simp] theorem setPending_indications (s : State) (v : List Instr) : (s.setPending v).indications = s.indications := rfl
@[simp] theorem setPending_report (s : State) (v : List Instr) : (s.setPending v).report = s.report := rfl
@[simp] theorem setPending_reader (s : State) (v : List Instr) : (s.setPending v).reader = s.reader := rfl
@[simp] theorem setPending_tables (s : State) (v : List Instr) : (s.setPending v).tables = s.tables := rfl
@[simp] theorem setPending_link (s : State) (v : List Instr) : (s.setPending v).link = s.link := rfl
@[simp] theorem setPending_conditions (s : State) (v : List Instr) : (s.setPending v).conditions = s.conditions := rfl
@[simp] theorem setPending_choices (s : State) (v : List Instr) : (s.setPending v).choices = s.choices := rfl
@[simp] theorem setPending_pending (s : State) (v : List Instr) : (s.setPending v).pending = v := rfl

end Sys2Proof.Laws
end

