-- ==== Sys2Proof/Laws/Flags.lean ====
section
/-! SUPPORT. What making records and conditions known leaves alone: one lemma for each operation of Flags.lean and each
field of State it does not change. -/

namespace Sys2Proof.Laws

open Sys2Proof.Machine

@[simp] theorem setLive_time (n : ConditionIdx) (b : Bool) (s : State) : (s.setLive n b).time = s.time := rfl
@[simp] theorem setLive_lanes (n : ConditionIdx) (b : Bool) (s : State) : (s.setLive n b).lanes = s.lanes := rfl
@[simp] theorem setLive_inbox (n : ConditionIdx) (b : Bool) (s : State) : (s.setLive n b).inbox = s.inbox := rfl
@[simp] theorem setLive_cards (n : ConditionIdx) (b : Bool) (s : State) : (s.setLive n b).cards = s.cards := rfl
@[simp] theorem setLive_frameQueue (n : ConditionIdx) (b : Bool) (s : State) : (s.setLive n b).frameQueue = s.frameQueue := rfl
@[simp] theorem setLive_engine (n : ConditionIdx) (b : Bool) (s : State) : (s.setLive n b).engine = s.engine := rfl
@[simp] theorem setLive_input (n : ConditionIdx) (b : Bool) (s : State) : (s.setLive n b).input = s.input := rfl
@[simp] theorem setLive_relays (n : ConditionIdx) (b : Bool) (s : State) : (s.setLive n b).relays = s.relays := rfl
@[simp] theorem setLive_evaluator (n : ConditionIdx) (b : Bool) (s : State) : (s.setLive n b).evaluator = s.evaluator := rfl
@[simp] theorem setLive_indications (n : ConditionIdx) (b : Bool) (s : State) : (s.setLive n b).indications = s.indications := rfl
@[simp] theorem setLive_report (n : ConditionIdx) (b : Bool) (s : State) : (s.setLive n b).report = s.report := rfl
@[simp] theorem setLive_reader (n : ConditionIdx) (b : Bool) (s : State) : (s.setLive n b).reader = s.reader := rfl
@[simp] theorem setLive_tables (n : ConditionIdx) (b : Bool) (s : State) : (s.setLive n b).tables = s.tables := rfl
@[simp] theorem setLive_link (n : ConditionIdx) (b : Bool) (s : State) : (s.setLive n b).link = s.link := rfl
@[simp] theorem setLive_choices (n : ConditionIdx) (b : Bool) (s : State) : (s.setLive n b).choices = s.choices := rfl
@[simp] theorem setLive_pending (n : ConditionIdx) (b : Bool) (s : State) : (s.setLive n b).pending = s.pending := rfl

@[simp] theorem setLatched_time (n : ConditionIdx) (b : Bool) (s : State) : (s.setLatched n b).time = s.time := rfl
@[simp] theorem setLatched_lanes (n : ConditionIdx) (b : Bool) (s : State) : (s.setLatched n b).lanes = s.lanes := rfl
@[simp] theorem setLatched_inbox (n : ConditionIdx) (b : Bool) (s : State) : (s.setLatched n b).inbox = s.inbox := rfl
@[simp] theorem setLatched_cards (n : ConditionIdx) (b : Bool) (s : State) : (s.setLatched n b).cards = s.cards := rfl
@[simp] theorem setLatched_frameQueue (n : ConditionIdx) (b : Bool) (s : State) : (s.setLatched n b).frameQueue = s.frameQueue := rfl
@[simp] theorem setLatched_engine (n : ConditionIdx) (b : Bool) (s : State) : (s.setLatched n b).engine = s.engine := rfl
@[simp] theorem setLatched_input (n : ConditionIdx) (b : Bool) (s : State) : (s.setLatched n b).input = s.input := rfl
@[simp] theorem setLatched_relays (n : ConditionIdx) (b : Bool) (s : State) : (s.setLatched n b).relays = s.relays := rfl
@[simp] theorem setLatched_evaluator (n : ConditionIdx) (b : Bool) (s : State) : (s.setLatched n b).evaluator = s.evaluator := rfl
@[simp] theorem setLatched_indications (n : ConditionIdx) (b : Bool) (s : State) : (s.setLatched n b).indications = s.indications := rfl
@[simp] theorem setLatched_report (n : ConditionIdx) (b : Bool) (s : State) : (s.setLatched n b).report = s.report := rfl
@[simp] theorem setLatched_reader (n : ConditionIdx) (b : Bool) (s : State) : (s.setLatched n b).reader = s.reader := rfl
@[simp] theorem setLatched_tables (n : ConditionIdx) (b : Bool) (s : State) : (s.setLatched n b).tables = s.tables := rfl
@[simp] theorem setLatched_link (n : ConditionIdx) (b : Bool) (s : State) : (s.setLatched n b).link = s.link := rfl
@[simp] theorem setLatched_choices (n : ConditionIdx) (b : Bool) (s : State) : (s.setLatched n b).choices = s.choices := rfl
@[simp] theorem setLatched_pending (n : ConditionIdx) (b : Bool) (s : State) : (s.setLatched n b).pending = s.pending := rfl

@[simp] theorem setWaiting_time (os : List Offer) (s : State) : (s.setWaiting os).time = s.time := rfl
@[simp] theorem setWaiting_lanes (os : List Offer) (s : State) : (s.setWaiting os).lanes = s.lanes := rfl
@[simp] theorem setWaiting_inbox (os : List Offer) (s : State) : (s.setWaiting os).inbox = s.inbox := rfl
@[simp] theorem setWaiting_cards (os : List Offer) (s : State) : (s.setWaiting os).cards = s.cards := rfl
@[simp] theorem setWaiting_frameQueue (os : List Offer) (s : State) : (s.setWaiting os).frameQueue = s.frameQueue := rfl
@[simp] theorem setWaiting_engine (os : List Offer) (s : State) : (s.setWaiting os).engine = s.engine := rfl
@[simp] theorem setWaiting_input (os : List Offer) (s : State) : (s.setWaiting os).input = s.input := rfl
@[simp] theorem setWaiting_relays (os : List Offer) (s : State) : (s.setWaiting os).relays = s.relays := rfl
@[simp] theorem setWaiting_evaluator (os : List Offer) (s : State) : (s.setWaiting os).evaluator = s.evaluator := rfl
@[simp] theorem setWaiting_indications (os : List Offer) (s : State) : (s.setWaiting os).indications = s.indications := rfl
@[simp] theorem setWaiting_report (os : List Offer) (s : State) : (s.setWaiting os).report = s.report := rfl
@[simp] theorem setWaiting_reader (os : List Offer) (s : State) : (s.setWaiting os).reader = s.reader := rfl
@[simp] theorem setWaiting_tables (os : List Offer) (s : State) : (s.setWaiting os).tables = s.tables := rfl
@[simp] theorem setWaiting_link (os : List Offer) (s : State) : (s.setWaiting os).link = s.link := rfl
@[simp] theorem setWaiting_choices (os : List Offer) (s : State) : (s.setWaiting os).choices = s.choices := rfl
@[simp] theorem setWaiting_pending (os : List Offer) (s : State) : (s.setWaiting os).pending = s.pending := rfl

@[simp] theorem latch_time (n : ConditionIdx) (s : State) : (latch n s).time = s.time := rfl
@[simp] theorem latch_lanes (n : ConditionIdx) (s : State) : (latch n s).lanes = s.lanes := rfl
@[simp] theorem latch_inbox (n : ConditionIdx) (s : State) : (latch n s).inbox = s.inbox := rfl
@[simp] theorem latch_cards (n : ConditionIdx) (s : State) : (latch n s).cards = s.cards := rfl
@[simp] theorem latch_frameQueue (n : ConditionIdx) (s : State) : (latch n s).frameQueue = s.frameQueue := rfl
@[simp] theorem latch_engine (n : ConditionIdx) (s : State) : (latch n s).engine = s.engine := rfl
@[simp] theorem latch_input (n : ConditionIdx) (s : State) : (latch n s).input = s.input := rfl
@[simp] theorem latch_relays (n : ConditionIdx) (s : State) : (latch n s).relays = s.relays := rfl
@[simp] theorem latch_evaluator (n : ConditionIdx) (s : State) : (latch n s).evaluator = s.evaluator := rfl
@[simp] theorem latch_indications (n : ConditionIdx) (s : State) : (latch n s).indications = s.indications := rfl
@[simp] theorem latch_report (n : ConditionIdx) (s : State) : (latch n s).report = s.report := rfl
@[simp] theorem latch_reader (n : ConditionIdx) (s : State) : (latch n s).reader = s.reader := rfl
@[simp] theorem latch_tables (n : ConditionIdx) (s : State) : (latch n s).tables = s.tables := rfl
@[simp] theorem latch_link (n : ConditionIdx) (s : State) : (latch n s).link = s.link := rfl
@[simp] theorem latch_choices (n : ConditionIdx) (s : State) : (latch n s).choices = s.choices := rfl
@[simp] theorem latch_pending (n : ConditionIdx) (s : State) : (latch n s).pending = s.pending := rfl

@[simp] theorem rise_time (n : ConditionIdx) (s : State) : (rise n s).time = s.time := by unfold rise; split <;> rfl
@[simp] theorem rise_lanes (n : ConditionIdx) (s : State) : (rise n s).lanes = s.lanes := by unfold rise; split <;> rfl
@[simp] theorem rise_inbox (n : ConditionIdx) (s : State) : (rise n s).inbox = s.inbox := by unfold rise; split <;> rfl
@[simp] theorem rise_cards (n : ConditionIdx) (s : State) : (rise n s).cards = s.cards := by unfold rise; split <;> rfl
@[simp] theorem rise_frameQueue (n : ConditionIdx) (s : State) : (rise n s).frameQueue = s.frameQueue := by unfold rise; split <;> rfl
@[simp] theorem rise_engine (n : ConditionIdx) (s : State) : (rise n s).engine = s.engine := by unfold rise; split <;> rfl
@[simp] theorem rise_input (n : ConditionIdx) (s : State) : (rise n s).input = s.input := by unfold rise; split <;> rfl
@[simp] theorem rise_relays (n : ConditionIdx) (s : State) : (rise n s).relays = s.relays := by unfold rise; split <;> rfl
@[simp] theorem rise_evaluator (n : ConditionIdx) (s : State) : (rise n s).evaluator = s.evaluator := by unfold rise; split <;> rfl
@[simp] theorem rise_indications (n : ConditionIdx) (s : State) : (rise n s).indications = s.indications := by unfold rise; split <;> rfl
@[simp] theorem rise_report (n : ConditionIdx) (s : State) : (rise n s).report = s.report := by unfold rise; split <;> rfl
@[simp] theorem rise_reader (n : ConditionIdx) (s : State) : (rise n s).reader = s.reader := by unfold rise; split <;> rfl
@[simp] theorem rise_tables (n : ConditionIdx) (s : State) : (rise n s).tables = s.tables := by unfold rise; split <;> rfl
@[simp] theorem rise_link (n : ConditionIdx) (s : State) : (rise n s).link = s.link := by unfold rise; split <;> rfl
@[simp] theorem rise_choices (n : ConditionIdx) (s : State) : (rise n s).choices = s.choices := by unfold rise; split <;> rfl
@[simp] theorem rise_pending (n : ConditionIdx) (s : State) : (rise n s).pending = s.pending := by unfold rise; split <;> rfl

@[simp] theorem riseAll_time (ns : List ConditionIdx) (s : State) : (riseAll ns s).time = s.time := by
  unfold riseAll; induction ns generalizing s with
  | nil => rfl
  | cons n ns ih => rw [List.foldl_cons, ih, rise_time]
@[simp] theorem riseAll_lanes (ns : List ConditionIdx) (s : State) : (riseAll ns s).lanes = s.lanes := by
  unfold riseAll; induction ns generalizing s with
  | nil => rfl
  | cons n ns ih => rw [List.foldl_cons, ih, rise_lanes]
@[simp] theorem riseAll_inbox (ns : List ConditionIdx) (s : State) : (riseAll ns s).inbox = s.inbox := by
  unfold riseAll; induction ns generalizing s with
  | nil => rfl
  | cons n ns ih => rw [List.foldl_cons, ih, rise_inbox]
@[simp] theorem riseAll_cards (ns : List ConditionIdx) (s : State) : (riseAll ns s).cards = s.cards := by
  unfold riseAll; induction ns generalizing s with
  | nil => rfl
  | cons n ns ih => rw [List.foldl_cons, ih, rise_cards]
@[simp] theorem riseAll_frameQueue (ns : List ConditionIdx) (s : State) : (riseAll ns s).frameQueue = s.frameQueue := by
  unfold riseAll; induction ns generalizing s with
  | nil => rfl
  | cons n ns ih => rw [List.foldl_cons, ih, rise_frameQueue]
@[simp] theorem riseAll_engine (ns : List ConditionIdx) (s : State) : (riseAll ns s).engine = s.engine := by
  unfold riseAll; induction ns generalizing s with
  | nil => rfl
  | cons n ns ih => rw [List.foldl_cons, ih, rise_engine]
@[simp] theorem riseAll_input (ns : List ConditionIdx) (s : State) : (riseAll ns s).input = s.input := by
  unfold riseAll; induction ns generalizing s with
  | nil => rfl
  | cons n ns ih => rw [List.foldl_cons, ih, rise_input]
@[simp] theorem riseAll_relays (ns : List ConditionIdx) (s : State) : (riseAll ns s).relays = s.relays := by
  unfold riseAll; induction ns generalizing s with
  | nil => rfl
  | cons n ns ih => rw [List.foldl_cons, ih, rise_relays]
@[simp] theorem riseAll_evaluator (ns : List ConditionIdx) (s : State) : (riseAll ns s).evaluator = s.evaluator := by
  unfold riseAll; induction ns generalizing s with
  | nil => rfl
  | cons n ns ih => rw [List.foldl_cons, ih, rise_evaluator]
@[simp] theorem riseAll_indications (ns : List ConditionIdx) (s : State) : (riseAll ns s).indications = s.indications := by
  unfold riseAll; induction ns generalizing s with
  | nil => rfl
  | cons n ns ih => rw [List.foldl_cons, ih, rise_indications]
@[simp] theorem riseAll_report (ns : List ConditionIdx) (s : State) : (riseAll ns s).report = s.report := by
  unfold riseAll; induction ns generalizing s with
  | nil => rfl
  | cons n ns ih => rw [List.foldl_cons, ih, rise_report]
@[simp] theorem riseAll_reader (ns : List ConditionIdx) (s : State) : (riseAll ns s).reader = s.reader := by
  unfold riseAll; induction ns generalizing s with
  | nil => rfl
  | cons n ns ih => rw [List.foldl_cons, ih, rise_reader]
@[simp] theorem riseAll_tables (ns : List ConditionIdx) (s : State) : (riseAll ns s).tables = s.tables := by
  unfold riseAll; induction ns generalizing s with
  | nil => rfl
  | cons n ns ih => rw [List.foldl_cons, ih, rise_tables]
@[simp] theorem riseAll_link (ns : List ConditionIdx) (s : State) : (riseAll ns s).link = s.link := by
  unfold riseAll; induction ns generalizing s with
  | nil => rfl
  | cons n ns ih => rw [List.foldl_cons, ih, rise_link]
@[simp] theorem riseAll_choices (ns : List ConditionIdx) (s : State) : (riseAll ns s).choices = s.choices := by
  unfold riseAll; induction ns generalizing s with
  | nil => rfl
  | cons n ns ih => rw [List.foldl_cons, ih, rise_choices]
@[simp] theorem riseAll_pending (ns : List ConditionIdx) (s : State) : (riseAll ns s).pending = s.pending := by
  unfold riseAll; induction ns generalizing s with
  | nil => rfl
  | cons n ns ih => rw [List.foldl_cons, ih, rise_pending]

@[simp] theorem queueTakes_time (o : Offer) (s : State) : (queueTakes o s).time = s.time := by
  simp only [queueTakes]; split <;> (try split) <;> simp
@[simp] theorem queueTakes_lanes (o : Offer) (s : State) : (queueTakes o s).lanes = s.lanes := by
  simp only [queueTakes]; split <;> (try split) <;> simp
@[simp] theorem queueTakes_inbox (o : Offer) (s : State) : (queueTakes o s).inbox = s.inbox := by
  simp only [queueTakes]; split <;> (try split) <;> simp
@[simp] theorem queueTakes_cards (o : Offer) (s : State) : (queueTakes o s).cards = s.cards := by
  simp only [queueTakes]; split <;> (try split) <;> simp
@[simp] theorem queueTakes_frameQueue (o : Offer) (s : State) : (queueTakes o s).frameQueue = s.frameQueue := by
  simp only [queueTakes]; split <;> (try split) <;> simp
@[simp] theorem queueTakes_engine (o : Offer) (s : State) : (queueTakes o s).engine = s.engine := by
  simp only [queueTakes]; split <;> (try split) <;> simp
@[simp] theorem queueTakes_input (o : Offer) (s : State) : (queueTakes o s).input = s.input := by
  simp only [queueTakes]; split <;> (try split) <;> simp
@[simp] theorem queueTakes_relays (o : Offer) (s : State) : (queueTakes o s).relays = s.relays := by
  simp only [queueTakes]; split <;> (try split) <;> simp
@[simp] theorem queueTakes_evaluator (o : Offer) (s : State) : (queueTakes o s).evaluator = s.evaluator := by
  simp only [queueTakes]; split <;> (try split) <;> simp
@[simp] theorem queueTakes_indications (o : Offer) (s : State) : (queueTakes o s).indications = s.indications := by
  simp only [queueTakes]; split <;> (try split) <;> simp
@[simp] theorem queueTakes_reader (o : Offer) (s : State) : (queueTakes o s).reader = s.reader := by
  simp only [queueTakes]; split <;> (try split) <;> simp
@[simp] theorem queueTakes_tables (o : Offer) (s : State) : (queueTakes o s).tables = s.tables := by
  simp only [queueTakes]; split <;> (try split) <;> simp
@[simp] theorem queueTakes_link (o : Offer) (s : State) : (queueTakes o s).link = s.link := by
  simp only [queueTakes]; split <;> (try split) <;> simp
@[simp] theorem queueTakes_choices (o : Offer) (s : State) : (queueTakes o s).choices = s.choices := by
  simp only [queueTakes]; split <;> (try split) <;> simp
@[simp] theorem queueTakes_pending (o : Offer) (s : State) : (queueTakes o s).pending = s.pending := by
  simp only [queueTakes]; split <;> (try split) <;> simp

@[simp] theorem takeWaiting_time (s : State) : (takeWaiting s).time = s.time := by unfold takeWaiting; split <;> simp
@[simp] theorem takeWaiting_lanes (s : State) : (takeWaiting s).lanes = s.lanes := by unfold takeWaiting; split <;> simp
@[simp] theorem takeWaiting_inbox (s : State) : (takeWaiting s).inbox = s.inbox := by unfold takeWaiting; split <;> simp
@[simp] theorem takeWaiting_cards (s : State) : (takeWaiting s).cards = s.cards := by unfold takeWaiting; split <;> simp
@[simp] theorem takeWaiting_frameQueue (s : State) : (takeWaiting s).frameQueue = s.frameQueue := by unfold takeWaiting; split <;> simp
@[simp] theorem takeWaiting_engine (s : State) : (takeWaiting s).engine = s.engine := by unfold takeWaiting; split <;> simp
@[simp] theorem takeWaiting_input (s : State) : (takeWaiting s).input = s.input := by unfold takeWaiting; split <;> simp
@[simp] theorem takeWaiting_relays (s : State) : (takeWaiting s).relays = s.relays := by unfold takeWaiting; split <;> simp
@[simp] theorem takeWaiting_evaluator (s : State) : (takeWaiting s).evaluator = s.evaluator := by unfold takeWaiting; split <;> simp
@[simp] theorem takeWaiting_indications (s : State) : (takeWaiting s).indications = s.indications := by unfold takeWaiting; split <;> simp
@[simp] theorem takeWaiting_reader (s : State) : (takeWaiting s).reader = s.reader := by unfold takeWaiting; split <;> simp
@[simp] theorem takeWaiting_tables (s : State) : (takeWaiting s).tables = s.tables := by unfold takeWaiting; split <;> simp
@[simp] theorem takeWaiting_link (s : State) : (takeWaiting s).link = s.link := by unfold takeWaiting; split <;> simp
@[simp] theorem takeWaiting_choices (s : State) : (takeWaiting s).choices = s.choices := by unfold takeWaiting; split <;> simp
@[simp] theorem takeWaiting_pending (s : State) : (takeWaiting s).pending = s.pending := by unfold takeWaiting; split <;> simp

@[simp] theorem takeSome_time (k : Nat) (s : State) : (takeSome k s).time = s.time := by
  induction k generalizing s with
  | zero => rfl
  | succ k ih => rw [takeSome, ih, takeWaiting_time]
@[simp] theorem takeSome_lanes (k : Nat) (s : State) : (takeSome k s).lanes = s.lanes := by
  induction k generalizing s with
  | zero => rfl
  | succ k ih => rw [takeSome, ih, takeWaiting_lanes]
@[simp] theorem takeSome_inbox (k : Nat) (s : State) : (takeSome k s).inbox = s.inbox := by
  induction k generalizing s with
  | zero => rfl
  | succ k ih => rw [takeSome, ih, takeWaiting_inbox]
@[simp] theorem takeSome_cards (k : Nat) (s : State) : (takeSome k s).cards = s.cards := by
  induction k generalizing s with
  | zero => rfl
  | succ k ih => rw [takeSome, ih, takeWaiting_cards]
@[simp] theorem takeSome_frameQueue (k : Nat) (s : State) : (takeSome k s).frameQueue = s.frameQueue := by
  induction k generalizing s with
  | zero => rfl
  | succ k ih => rw [takeSome, ih, takeWaiting_frameQueue]
@[simp] theorem takeSome_engine (k : Nat) (s : State) : (takeSome k s).engine = s.engine := by
  induction k generalizing s with
  | zero => rfl
  | succ k ih => rw [takeSome, ih, takeWaiting_engine]
@[simp] theorem takeSome_input (k : Nat) (s : State) : (takeSome k s).input = s.input := by
  induction k generalizing s with
  | zero => rfl
  | succ k ih => rw [takeSome, ih, takeWaiting_input]
@[simp] theorem takeSome_relays (k : Nat) (s : State) : (takeSome k s).relays = s.relays := by
  induction k generalizing s with
  | zero => rfl
  | succ k ih => rw [takeSome, ih, takeWaiting_relays]
@[simp] theorem takeSome_evaluator (k : Nat) (s : State) : (takeSome k s).evaluator = s.evaluator := by
  induction k generalizing s with
  | zero => rfl
  | succ k ih => rw [takeSome, ih, takeWaiting_evaluator]
@[simp] theorem takeSome_indications (k : Nat) (s : State) : (takeSome k s).indications = s.indications := by
  induction k generalizing s with
  | zero => rfl
  | succ k ih => rw [takeSome, ih, takeWaiting_indications]
@[simp] theorem takeSome_reader (k : Nat) (s : State) : (takeSome k s).reader = s.reader := by
  induction k generalizing s with
  | zero => rfl
  | succ k ih => rw [takeSome, ih, takeWaiting_reader]
@[simp] theorem takeSome_tables (k : Nat) (s : State) : (takeSome k s).tables = s.tables := by
  induction k generalizing s with
  | zero => rfl
  | succ k ih => rw [takeSome, ih, takeWaiting_tables]
@[simp] theorem takeSome_link (k : Nat) (s : State) : (takeSome k s).link = s.link := by
  induction k generalizing s with
  | zero => rfl
  | succ k ih => rw [takeSome, ih, takeWaiting_link]
@[simp] theorem takeSome_choices (k : Nat) (s : State) : (takeSome k s).choices = s.choices := by
  induction k generalizing s with
  | zero => rfl
  | succ k ih => rw [takeSome, ih, takeWaiting_choices]
@[simp] theorem takeSome_pending (k : Nat) (s : State) : (takeSome k s).pending = s.pending := by
  induction k generalizing s with
  | zero => rfl
  | succ k ih => rw [takeSome, ih, takeWaiting_pending]

@[simp] theorem takeFreely_time (s : State) : (takeFreely s).time = s.time := by unfold takeFreely; split <;> simp
@[simp] theorem takeFreely_lanes (s : State) : (takeFreely s).lanes = s.lanes := by unfold takeFreely; split <;> simp
@[simp] theorem takeFreely_inbox (s : State) : (takeFreely s).inbox = s.inbox := by unfold takeFreely; split <;> simp
@[simp] theorem takeFreely_cards (s : State) : (takeFreely s).cards = s.cards := by unfold takeFreely; split <;> simp
@[simp] theorem takeFreely_frameQueue (s : State) : (takeFreely s).frameQueue = s.frameQueue := by unfold takeFreely; split <;> simp
@[simp] theorem takeFreely_engine (s : State) : (takeFreely s).engine = s.engine := by unfold takeFreely; split <;> simp
@[simp] theorem takeFreely_input (s : State) : (takeFreely s).input = s.input := by unfold takeFreely; split <;> simp
@[simp] theorem takeFreely_relays (s : State) : (takeFreely s).relays = s.relays := by unfold takeFreely; split <;> simp
@[simp] theorem takeFreely_evaluator (s : State) : (takeFreely s).evaluator = s.evaluator := by unfold takeFreely; split <;> simp
@[simp] theorem takeFreely_indications (s : State) : (takeFreely s).indications = s.indications := by unfold takeFreely; split <;> simp
@[simp] theorem takeFreely_reader (s : State) : (takeFreely s).reader = s.reader := by unfold takeFreely; split <;> simp
@[simp] theorem takeFreely_tables (s : State) : (takeFreely s).tables = s.tables := by unfold takeFreely; split <;> simp
@[simp] theorem takeFreely_link (s : State) : (takeFreely s).link = s.link := by unfold takeFreely; split <;> simp
@[simp] theorem takeFreely_pending (s : State) : (takeFreely s).pending = s.pending := by unfold takeFreely; split <;> simp

/-- With no CONDITION record waiting there is nothing to choose. -/
theorem takeFreely_of_none_waiting (s : State) (h : s.conditions.waiting = []) : takeFreely s = s := by
  simp [takeFreely, h]

/-- With no record waiting there is none to take. -/
theorem takeSome_of_none_waiting (k : Nat) (s : State) (h : s.conditions.waiting = []) : takeSome k s = s := by
  induction k with
  | zero => rfl
  | succ k ih => rwa [takeSome, show takeWaiting s = s by simp [takeWaiting, h]]

/-- Where taking one record leaves none waiting, the queue takes it at this place or does not. -/
theorem takeFreely_of_last_waiting (s : State) (w : s.conditions.waiting ≠ [])
    (h : (takeWaiting (s.setChoices (s.choices + 1))).conditions.waiting = []) :
    takeFreely s = s.setChoices (s.choices + 1) ∨ takeFreely s = takeWaiting (s.setChoices (s.choices + 1)) := by
  rw [takeFreely, if_neg (by simpa using w)]
  cases Config.conditionsBefore s.choices with
  | zero => exact .inl rfl
  | succ k => exact .inr (takeSome_of_none_waiting k _ h)

@[simp] theorem offer_time (o : Offer) (s : State) : (offer o s).time = s.time := by simp [offer]
@[simp] theorem offer_lanes (o : Offer) (s : State) : (offer o s).lanes = s.lanes := by simp [offer]
@[simp] theorem offer_inbox (o : Offer) (s : State) : (offer o s).inbox = s.inbox := by simp [offer]
@[simp] theorem offer_cards (o : Offer) (s : State) : (offer o s).cards = s.cards := by simp [offer]
@[simp] theorem offer_frameQueue (o : Offer) (s : State) : (offer o s).frameQueue = s.frameQueue := by simp [offer]
@[simp] theorem offer_engine (o : Offer) (s : State) : (offer o s).engine = s.engine := by simp [offer]
@[simp] theorem offer_input (o : Offer) (s : State) : (offer o s).input = s.input := by simp [offer]
@[simp] theorem offer_relays (o : Offer) (s : State) : (offer o s).relays = s.relays := by simp [offer]
@[simp] theorem offer_evaluator (o : Offer) (s : State) : (offer o s).evaluator = s.evaluator := by simp [offer]
@[simp] theorem offer_indications (o : Offer) (s : State) : (offer o s).indications = s.indications := by simp [offer]
@[simp] theorem offer_reader (o : Offer) (s : State) : (offer o s).reader = s.reader := by simp [offer]
@[simp] theorem offer_tables (o : Offer) (s : State) : (offer o s).tables = s.tables := by simp [offer]
@[simp] theorem offer_link (o : Offer) (s : State) : (offer o s).link = s.link := by simp [offer]
@[simp] theorem offer_pending (o : Offer) (s : State) : (offer o s).pending = s.pending := by simp [offer]

@[simp] theorem offerAll_time (os : List Offer) (s : State) : (offerAll os s).time = s.time := by
  unfold offerAll; induction os generalizing s with
  | nil => rfl
  | cons o os ih => rw [List.foldl_cons, ih, offer_time]
@[simp] theorem offerAll_lanes (os : List Offer) (s : State) : (offerAll os s).lanes = s.lanes := by
  unfold offerAll; induction os generalizing s with
  | nil => rfl
  | cons o os ih => rw [List.foldl_cons, ih, offer_lanes]
@[simp] theorem offerAll_inbox (os : List Offer) (s : State) : (offerAll os s).inbox = s.inbox := by
  unfold offerAll; induction os generalizing s with
  | nil => rfl
  | cons o os ih => rw [List.foldl_cons, ih, offer_inbox]
@[simp] theorem offerAll_cards (os : List Offer) (s : State) : (offerAll os s).cards = s.cards := by
  unfold offerAll; induction os generalizing s with
  | nil => rfl
  | cons o os ih => rw [List.foldl_cons, ih, offer_cards]
@[simp] theorem offerAll_frameQueue (os : List Offer) (s : State) : (offerAll os s).frameQueue = s.frameQueue := by
  unfold offerAll; induction os generalizing s with
  | nil => rfl
  | cons o os ih => rw [List.foldl_cons, ih, offer_frameQueue]
@[simp] theorem offerAll_engine (os : List Offer) (s : State) : (offerAll os s).engine = s.engine := by
  unfold offerAll; induction os generalizing s with
  | nil => rfl
  | cons o os ih => rw [List.foldl_cons, ih, offer_engine]
@[simp] theorem offerAll_input (os : List Offer) (s : State) : (offerAll os s).input = s.input := by
  unfold offerAll; induction os generalizing s with
  | nil => rfl
  | cons o os ih => rw [List.foldl_cons, ih, offer_input]
@[simp] theorem offerAll_relays (os : List Offer) (s : State) : (offerAll os s).relays = s.relays := by
  unfold offerAll; induction os generalizing s with
  | nil => rfl
  | cons o os ih => rw [List.foldl_cons, ih, offer_relays]
@[simp] theorem offerAll_evaluator (os : List Offer) (s : State) : (offerAll os s).evaluator = s.evaluator := by
  unfold offerAll; induction os generalizing s with
  | nil => rfl
  | cons o os ih => rw [List.foldl_cons, ih, offer_evaluator]
@[simp] theorem offerAll_indications (os : List Offer) (s : State) : (offerAll os s).indications = s.indications := by
  unfold offerAll; induction os generalizing s with
  | nil => rfl
  | cons o os ih => rw [List.foldl_cons, ih, offer_indications]
@[simp] theorem offerAll_reader (os : List Offer) (s : State) : (offerAll os s).reader = s.reader := by
  unfold offerAll; induction os generalizing s with
  | nil => rfl
  | cons o os ih => rw [List.foldl_cons, ih, offer_reader]
@[simp] theorem offerAll_tables (os : List Offer) (s : State) : (offerAll os s).tables = s.tables := by
  unfold offerAll; induction os generalizing s with
  | nil => rfl
  | cons o os ih => rw [List.foldl_cons, ih, offer_tables]
@[simp] theorem offerAll_link (os : List Offer) (s : State) : (offerAll os s).link = s.link := by
  unfold offerAll; induction os generalizing s with
  | nil => rfl
  | cons o os ih => rw [List.foldl_cons, ih, offer_link]
@[simp] theorem offerAll_pending (os : List Offer) (s : State) : (offerAll os s).pending = s.pending := by
  unfold offerAll; induction os generalizing s with
  | nil => rfl
  | cons o os ih => rw [List.foldl_cons, ih, offer_pending]

@[simp] theorem settle_time (s : State) : (settle s).time = s.time := by simp [settle]
@[simp] theorem settle_lanes (s : State) : (settle s).lanes = s.lanes := by simp [settle]
@[simp] theorem settle_inbox (s : State) : (settle s).inbox = s.inbox := by simp [settle]
@[simp] theorem settle_cards (s : State) : (settle s).cards = s.cards := by simp [settle]
@[simp] theorem settle_frameQueue (s : State) : (settle s).frameQueue = s.frameQueue := by simp [settle]
@[simp] theorem settle_engine (s : State) : (settle s).engine = s.engine := by simp [settle]
@[simp] theorem settle_input (s : State) : (settle s).input = s.input := by simp [settle]
@[simp] theorem settle_relays (s : State) : (settle s).relays = s.relays := by simp [settle]
@[simp] theorem settle_evaluator (s : State) : (settle s).evaluator = s.evaluator := by simp [settle]
@[simp] theorem settle_indications (s : State) : (settle s).indications = s.indications := by simp [settle]
@[simp] theorem settle_reader (s : State) : (settle s).reader = s.reader := by simp [settle]
@[simp] theorem settle_tables (s : State) : (settle s).tables = s.tables := by simp [settle]
@[simp] theorem settle_link (s : State) : (settle s).link = s.link := by simp [settle]
@[simp] theorem settle_choices (s : State) : (settle s).choices = s.choices := by simp [settle]
@[simp] theorem settle_pending (s : State) : (settle s).pending = s.pending := by simp [settle]

@[simp] theorem followLive_time (ns : List ConditionIdx) (s : State) : (followLive ns s).time = s.time := rfl
@[simp] theorem followLive_lanes (ns : List ConditionIdx) (s : State) : (followLive ns s).lanes = s.lanes := rfl
@[simp] theorem followLive_inbox (ns : List ConditionIdx) (s : State) : (followLive ns s).inbox = s.inbox := rfl
@[simp] theorem followLive_cards (ns : List ConditionIdx) (s : State) : (followLive ns s).cards = s.cards := rfl
@[simp] theorem followLive_frameQueue (ns : List ConditionIdx) (s : State) : (followLive ns s).frameQueue = s.frameQueue := rfl
@[simp] theorem followLive_engine (ns : List ConditionIdx) (s : State) : (followLive ns s).engine = s.engine := rfl
@[simp] theorem followLive_input (ns : List ConditionIdx) (s : State) : (followLive ns s).input = s.input := rfl
@[simp] theorem followLive_relays (ns : List ConditionIdx) (s : State) : (followLive ns s).relays = s.relays := rfl
@[simp] theorem followLive_evaluator (ns : List ConditionIdx) (s : State) : (followLive ns s).evaluator = s.evaluator := rfl
@[simp] theorem followLive_indications (ns : List ConditionIdx) (s : State) : (followLive ns s).indications = s.indications := rfl
@[simp] theorem followLive_report (ns : List ConditionIdx) (s : State) : (followLive ns s).report = s.report := rfl
@[simp] theorem followLive_reader (ns : List ConditionIdx) (s : State) : (followLive ns s).reader = s.reader := rfl
@[simp] theorem followLive_tables (ns : List ConditionIdx) (s : State) : (followLive ns s).tables = s.tables := rfl
@[simp] theorem followLive_link (ns : List ConditionIdx) (s : State) : (followLive ns s).link = s.link := rfl
@[simp] theorem followLive_choices (ns : List ConditionIdx) (s : State) : (followLive ns s).choices = s.choices := rfl
@[simp] theorem followLive_pending (ns : List ConditionIdx) (s : State) : (followLive ns s).pending = s.pending := rfl

@[simp] theorem makeKnown_time (os : List Offer) (es ls : List ConditionIdx) (s : State) : (makeKnown os es ls s).time = s.time := by simp [makeKnown]
@[simp] theorem makeKnown_lanes (os : List Offer) (es ls : List ConditionIdx) (s : State) : (makeKnown os es ls s).lanes = s.lanes := by simp [makeKnown]
@[simp] theorem makeKnown_inbox (os : List Offer) (es ls : List ConditionIdx) (s : State) : (makeKnown os es ls s).inbox = s.inbox := by simp [makeKnown]
@[simp] theorem makeKnown_cards (os : List Offer) (es ls : List ConditionIdx) (s : State) : (makeKnown os es ls s).cards = s.cards := by simp [makeKnown]
@[simp] theorem makeKnown_frameQueue (os : List Offer) (es ls : List ConditionIdx) (s : State) : (makeKnown os es ls s).frameQueue = s.frameQueue := by simp [makeKnown]
@[simp] theorem makeKnown_engine (os : List Offer) (es ls : List ConditionIdx) (s : State) : (makeKnown os es ls s).engine = s.engine := by simp [makeKnown]
@[simp] theorem makeKnown_input (os : List Offer) (es ls : List ConditionIdx) (s : State) : (makeKnown os es ls s).input = s.input := by simp [makeKnown]
@[simp] theorem makeKnown_relays (os : List Offer) (es ls : List ConditionIdx) (s : State) : (makeKnown os es ls s).relays = s.relays := by simp [makeKnown]
@[simp] theorem makeKnown_evaluator (os : List Offer) (es ls : List ConditionIdx) (s : State) : (makeKnown os es ls s).evaluator = s.evaluator := by simp [makeKnown]
@[simp] theorem makeKnown_indications (os : List Offer) (es ls : List ConditionIdx) (s : State) : (makeKnown os es ls s).indications = s.indications := by simp [makeKnown]
@[simp] theorem makeKnown_reader (os : List Offer) (es ls : List ConditionIdx) (s : State) : (makeKnown os es ls s).reader = s.reader := by simp [makeKnown]
@[simp] theorem makeKnown_tables (os : List Offer) (es ls : List ConditionIdx) (s : State) : (makeKnown os es ls s).tables = s.tables := by simp [makeKnown]
@[simp] theorem makeKnown_link (os : List Offer) (es ls : List ConditionIdx) (s : State) : (makeKnown os es ls s).link = s.link := by simp [makeKnown]
@[simp] theorem makeKnown_pending (os : List Offer) (es ls : List ConditionIdx) (s : State) : (makeKnown os es ls s).pending = s.pending := by simp [makeKnown]

@[simp] theorem announce_time (os : List Offer) (es ls : List ConditionIdx) (s : State) : (announce os es ls s).time = s.time := by simp [announce]
@[simp] theorem announce_lanes (os : List Offer) (es ls : List ConditionIdx) (s : State) : (announce os es ls s).lanes = s.lanes := by simp [announce]
@[simp] theorem announce_inbox (os : List Offer) (es ls : List ConditionIdx) (s : State) : (announce os es ls s).inbox = s.inbox := by simp [announce]
@[simp] theorem announce_cards (os : List Offer) (es ls : List ConditionIdx) (s : State) : (announce os es ls s).cards = s.cards := by simp [announce]
@[simp] theorem announce_frameQueue (os : List Offer) (es ls : List ConditionIdx) (s : State) : (announce os es ls s).frameQueue = s.frameQueue := by simp [announce]
@[simp] theorem announce_engine (os : List Offer) (es ls : List ConditionIdx) (s : State) : (announce os es ls s).engine = s.engine := by simp [announce]
@[simp] theorem announce_input (os : List Offer) (es ls : List ConditionIdx) (s : State) : (announce os es ls s).input = s.input := by simp [announce]
@[simp] theorem announce_relays (os : List Offer) (es ls : List ConditionIdx) (s : State) : (announce os es ls s).relays = s.relays := by simp [announce]
@[simp] theorem announce_evaluator (os : List Offer) (es ls : List ConditionIdx) (s : State) : (announce os es ls s).evaluator = s.evaluator := by simp [announce]
@[simp] theorem announce_indications (os : List Offer) (es ls : List ConditionIdx) (s : State) : (announce os es ls s).indications = s.indications := by simp [announce]
@[simp] theorem announce_reader (os : List Offer) (es ls : List ConditionIdx) (s : State) : (announce os es ls s).reader = s.reader := by simp [announce]
@[simp] theorem announce_tables (os : List Offer) (es ls : List ConditionIdx) (s : State) : (announce os es ls s).tables = s.tables := by simp [announce]
@[simp] theorem announce_link (os : List Offer) (es ls : List ConditionIdx) (s : State) : (announce os es ls s).link = s.link := by simp [announce]
@[simp] theorem announce_pending (os : List Offer) (es ls : List ConditionIdx) (s : State) : (announce os es ls s).pending = s.pending := by simp [announce]

end Sys2Proof.Laws
end

