-- ==== Sys2Proof/Laws/Ops.lean ====
section
/-! SUPPORT. What each operation of Ops.lean and Requests.lean leaves alone, field by field, and what it does to the rest,
said once. -/

namespace Sys2Proof.Laws

open Sys2Proof.Machine

@[simp] theorem putCard_time (n : CardIdx) (c : CardContext) (s : State) : (putCard n c s).time = s.time := rfl
@[simp] theorem putCard_lanes (n : CardIdx) (c : CardContext) (s : State) : (putCard n c s).lanes = s.lanes := rfl
@[simp] theorem putCard_inbox (n : CardIdx) (c : CardContext) (s : State) : (putCard n c s).inbox = s.inbox := rfl
@[simp] theorem putCard_frameQueue (n : CardIdx) (c : CardContext) (s : State) : (putCard n c s).frameQueue = s.frameQueue := rfl
@[simp] theorem putCard_engine (n : CardIdx) (c : CardContext) (s : State) : (putCard n c s).engine = s.engine := rfl
@[simp] theorem putCard_relays (n : CardIdx) (c : CardContext) (s : State) : (putCard n c s).relays = s.relays := rfl
@[simp] theorem putCard_evaluator (n : CardIdx) (c : CardContext) (s : State) : (putCard n c s).evaluator = s.evaluator := rfl
@[simp] theorem putCard_indications (n : CardIdx) (c : CardContext) (s : State) : (putCard n c s).indications = s.indications := rfl
@[simp] theorem putCard_report (n : CardIdx) (c : CardContext) (s : State) : (putCard n c s).report = s.report := rfl
@[simp] theorem putCard_reader (n : CardIdx) (c : CardContext) (s : State) : (putCard n c s).reader = s.reader := rfl
@[simp] theorem putCard_tables (n : CardIdx) (c : CardContext) (s : State) : (putCard n c s).tables = s.tables := rfl
@[simp] theorem putCard_link (n : CardIdx) (c : CardContext) (s : State) : (putCard n c s).link = s.link := rfl
@[simp] theorem putCard_conditions (n : CardIdx) (c : CardContext) (s : State) : (putCard n c s).conditions = s.conditions := rfl
@[simp] theorem putCard_choices (n : CardIdx) (c : CardContext) (s : State) : (putCard n c s).choices = s.choices := rfl
@[simp] theorem putCard_pending (n : CardIdx) (c : CardContext) (s : State) : (putCard n c s).pending = s.pending := rfl

@[simp] theorem sendEvents_time (es : List CardEvent) (s : State) : (sendEvents es s).time = s.time := rfl
@[simp] theorem sendEvents_lanes (es : List CardEvent) (s : State) : (sendEvents es s).lanes = s.lanes := rfl
@[simp] theorem sendEvents_inbox (es : List CardEvent) (s : State) : (sendEvents es s).inbox = s.inbox := rfl
@[simp] theorem sendEvents_cards (es : List CardEvent) (s : State) : (sendEvents es s).cards = s.cards := rfl
@[simp] theorem sendEvents_frameQueue (es : List CardEvent) (s : State) : (sendEvents es s).frameQueue = s.frameQueue := rfl
@[simp] theorem sendEvents_engine (es : List CardEvent) (s : State) : (sendEvents es s).engine = s.engine := rfl
@[simp] theorem sendEvents_input (es : List CardEvent) (s : State) : (sendEvents es s).input = s.input := rfl
@[simp] theorem sendEvents_relays (es : List CardEvent) (s : State) : (sendEvents es s).relays = s.relays := rfl
@[simp] theorem sendEvents_indications (es : List CardEvent) (s : State) : (sendEvents es s).indications = s.indications := rfl
@[simp] theorem sendEvents_report (es : List CardEvent) (s : State) : (sendEvents es s).report = s.report := rfl
@[simp] theorem sendEvents_reader (es : List CardEvent) (s : State) : (sendEvents es s).reader = s.reader := rfl
@[simp] theorem sendEvents_tables (es : List CardEvent) (s : State) : (sendEvents es s).tables = s.tables := rfl
@[simp] theorem sendEvents_link (es : List CardEvent) (s : State) : (sendEvents es s).link = s.link := rfl
@[simp] theorem sendEvents_conditions (es : List CardEvent) (s : State) : (sendEvents es s).conditions = s.conditions := rfl
@[simp] theorem sendEvents_choices (es : List CardEvent) (s : State) : (sendEvents es s).choices = s.choices := rfl
@[simp] theorem sendEvents_pending (es : List CardEvent) (s : State) : (sendEvents es s).pending = s.pending := rfl

@[simp] theorem foundAt_time (place : Nat) (s : State) : (foundAt place s).time = s.time := by unfold foundAt; split <;> rfl
@[simp] theorem foundAt_lanes (place : Nat) (s : State) : (foundAt place s).lanes = s.lanes := by unfold foundAt; split <;> rfl
@[simp] theorem foundAt_inbox (place : Nat) (s : State) : (foundAt place s).inbox = s.inbox := by unfold foundAt; split <;> rfl
@[simp] theorem foundAt_cards (place : Nat) (s : State) : (foundAt place s).cards = s.cards := by unfold foundAt; split <;> rfl
@[simp] theorem foundAt_frameQueue (place : Nat) (s : State) : (foundAt place s).frameQueue = s.frameQueue := by unfold foundAt; split <;> rfl
@[simp] theorem foundAt_engine (place : Nat) (s : State) : (foundAt place s).engine = s.engine := by unfold foundAt; split <;> rfl
@[simp] theorem foundAt_input (place : Nat) (s : State) : (foundAt place s).input = s.input := by unfold foundAt; split <;> rfl
@[simp] theorem foundAt_relays (place : Nat) (s : State) : (foundAt place s).relays = s.relays := by unfold foundAt; split <;> rfl
@[simp] theorem foundAt_indications (place : Nat) (s : State) : (foundAt place s).indications = s.indications := by unfold foundAt; split <;> rfl
@[simp] theorem foundAt_report (place : Nat) (s : State) : (foundAt place s).report = s.report := by unfold foundAt; split <;> rfl
@[simp] theorem foundAt_reader (place : Nat) (s : State) : (foundAt place s).reader = s.reader := by unfold foundAt; split <;> rfl
@[simp] theorem foundAt_tables (place : Nat) (s : State) : (foundAt place s).tables = s.tables := by unfold foundAt; split <;> rfl
@[simp] theorem foundAt_link (place : Nat) (s : State) : (foundAt place s).link = s.link := by unfold foundAt; split <;> rfl
@[simp] theorem foundAt_conditions (place : Nat) (s : State) : (foundAt place s).conditions = s.conditions := by unfold foundAt; split <;> rfl
@[simp] theorem foundAt_pending (place : Nat) (s : State) : (foundAt place s).pending = s.pending := by unfold foundAt; split <;> rfl
@[simp] theorem foundAt_choices (place : Nat) (s : State) : (foundAt place s).choices = s.choices := by unfold foundAt; split <;> rfl
@[simp] theorem pastRelays_time (b : Bool) (s : State) : (pastRelays b s).time = s.time := by unfold pastRelays; split <;> simp
@[simp] theorem pastRelays_lanes (b : Bool) (s : State) : (pastRelays b s).lanes = s.lanes := by unfold pastRelays; split <;> simp
@[simp] theorem pastRelays_inbox (b : Bool) (s : State) : (pastRelays b s).inbox = s.inbox := by unfold pastRelays; split <;> simp
@[simp] theorem pastRelays_cards (b : Bool) (s : State) : (pastRelays b s).cards = s.cards := by unfold pastRelays; split <;> simp
@[simp] theorem pastRelays_frameQueue (b : Bool) (s : State) : (pastRelays b s).frameQueue = s.frameQueue := by unfold pastRelays; split <;> simp
@[simp] theorem pastRelays_engine (b : Bool) (s : State) : (pastRelays b s).engine = s.engine := by unfold pastRelays; split <;> simp
@[simp] theorem pastRelays_input (b : Bool) (s : State) : (pastRelays b s).input = s.input := by unfold pastRelays; split <;> simp
@[simp] theorem pastRelays_relays (b : Bool) (s : State) : (pastRelays b s).relays = s.relays := by unfold pastRelays; split <;> simp
@[simp] theorem pastRelays_indications (b : Bool) (s : State) : (pastRelays b s).indications = s.indications := by unfold pastRelays; split <;> simp
@[simp] theorem pastRelays_report (b : Bool) (s : State) : (pastRelays b s).report = s.report := by unfold pastRelays; split <;> simp
@[simp] theorem pastRelays_reader (b : Bool) (s : State) : (pastRelays b s).reader = s.reader := by unfold pastRelays; split <;> simp
@[simp] theorem pastRelays_tables (b : Bool) (s : State) : (pastRelays b s).tables = s.tables := by unfold pastRelays; split <;> simp
@[simp] theorem pastRelays_link (b : Bool) (s : State) : (pastRelays b s).link = s.link := by unfold pastRelays; split <;> simp
@[simp] theorem pastRelays_conditions (b : Bool) (s : State) : (pastRelays b s).conditions = s.conditions := by unfold pastRelays; split <;> simp
@[simp] theorem pastRelays_pending (b : Bool) (s : State) : (pastRelays b s).pending = s.pending := by unfold pastRelays; split <;> simp
@[simp] theorem pastRelays_choices (b : Bool) (s : State) : (pastRelays b s).choices = s.choices := by unfold pastRelays; split <;> simp

@[simp] theorem announceCard_time (n : CardIdx) (t : Time) (b : CardContext) (es : List ConditionIdx) (s : State) : (announceCard n t b es s).time = s.time := by simp [announceCard]
@[simp] theorem announceCard_lanes (n : CardIdx) (t : Time) (b : CardContext) (es : List ConditionIdx) (s : State) : (announceCard n t b es s).lanes = s.lanes := by simp [announceCard]
@[simp] theorem announceCard_inbox (n : CardIdx) (t : Time) (b : CardContext) (es : List ConditionIdx) (s : State) : (announceCard n t b es s).inbox = s.inbox := by simp [announceCard]
@[simp] theorem announceCard_cards (n : CardIdx) (t : Time) (b : CardContext) (es : List ConditionIdx) (s : State) : (announceCard n t b es s).cards = s.cards := by simp [announceCard]
@[simp] theorem announceCard_frameQueue (n : CardIdx) (t : Time) (b : CardContext) (es : List ConditionIdx) (s : State) : (announceCard n t b es s).frameQueue = s.frameQueue := by simp [announceCard]
@[simp] theorem announceCard_engine (n : CardIdx) (t : Time) (b : CardContext) (es : List ConditionIdx) (s : State) : (announceCard n t b es s).engine = s.engine := by simp [announceCard]
@[simp] theorem announceCard_input (n : CardIdx) (t : Time) (b : CardContext) (es : List ConditionIdx) (s : State) : (announceCard n t b es s).input = s.input := by simp [announceCard]
@[simp] theorem announceCard_relays (n : CardIdx) (t : Time) (b : CardContext) (es : List ConditionIdx) (s : State) : (announceCard n t b es s).relays = s.relays := by simp [announceCard]
@[simp] theorem announceCard_indications (n : CardIdx) (t : Time) (b : CardContext) (es : List ConditionIdx) (s : State) : (announceCard n t b es s).indications = s.indications := by simp [announceCard]
@[simp] theorem announceCard_reader (n : CardIdx) (t : Time) (b : CardContext) (es : List ConditionIdx) (s : State) : (announceCard n t b es s).reader = s.reader := by simp [announceCard]
@[simp] theorem announceCard_tables (n : CardIdx) (t : Time) (b : CardContext) (es : List ConditionIdx) (s : State) : (announceCard n t b es s).tables = s.tables := by simp [announceCard]
@[simp] theorem announceCard_link (n : CardIdx) (t : Time) (b : CardContext) (es : List ConditionIdx) (s : State) : (announceCard n t b es s).link = s.link := by simp [announceCard]
@[simp] theorem announceCard_pending (n : CardIdx) (t : Time) (b : CardContext) (es : List ConditionIdx) (s : State) : (announceCard n t b es s).pending = s.pending := by simp [announceCard]

@[simp] theorem changeCard_time (n : CardIdx) (t : Time) (c : CardContext) (s : State) : (changeCard n t c s).time = s.time := by simp [changeCard]
@[simp] theorem changeCard_lanes (n : CardIdx) (t : Time) (c : CardContext) (s : State) : (changeCard n t c s).lanes = s.lanes := by simp [changeCard]
@[simp] theorem changeCard_inbox (n : CardIdx) (t : Time) (c : CardContext) (s : State) : (changeCard n t c s).inbox = s.inbox := by simp [changeCard]
@[simp] theorem changeCard_frameQueue (n : CardIdx) (t : Time) (c : CardContext) (s : State) : (changeCard n t c s).frameQueue = s.frameQueue := by simp [changeCard]
@[simp] theorem changeCard_engine (n : CardIdx) (t : Time) (c : CardContext) (s : State) : (changeCard n t c s).engine = s.engine := by simp [changeCard]
@[simp] theorem changeCard_relays (n : CardIdx) (t : Time) (c : CardContext) (s : State) : (changeCard n t c s).relays = s.relays := by simp [changeCard]
@[simp] theorem changeCard_indications (n : CardIdx) (t : Time) (c : CardContext) (s : State) : (changeCard n t c s).indications = s.indications := by simp [changeCard]
@[simp] theorem changeCard_reader (n : CardIdx) (t : Time) (c : CardContext) (s : State) : (changeCard n t c s).reader = s.reader := by simp [changeCard]
@[simp] theorem changeCard_tables (n : CardIdx) (t : Time) (c : CardContext) (s : State) : (changeCard n t c s).tables = s.tables := by simp [changeCard]
@[simp] theorem changeCard_link (n : CardIdx) (t : Time) (c : CardContext) (s : State) : (changeCard n t c s).link = s.link := by simp [changeCard]
@[simp] theorem changeCard_pending (n : CardIdx) (t : Time) (c : CardContext) (s : State) : (changeCard n t c s).pending = s.pending := by simp [changeCard]

@[simp] theorem placeEntry_time (e : ResponseEntry) (s : State) : (placeEntry e s).time = s.time := rfl
@[simp] theorem placeEntry_lanes (e : ResponseEntry) (s : State) : (placeEntry e s).lanes = s.lanes := rfl
@[simp] theorem placeEntry_inbox (e : ResponseEntry) (s : State) : (placeEntry e s).inbox = s.inbox := rfl
@[simp] theorem placeEntry_cards (e : ResponseEntry) (s : State) : (placeEntry e s).cards = s.cards := rfl
@[simp] theorem placeEntry_frameQueue (e : ResponseEntry) (s : State) : (placeEntry e s).frameQueue = s.frameQueue := rfl
@[simp] theorem placeEntry_engine (e : ResponseEntry) (s : State) : (placeEntry e s).engine = s.engine := rfl
@[simp] theorem placeEntry_input (e : ResponseEntry) (s : State) : (placeEntry e s).input = s.input := rfl
@[simp] theorem placeEntry_relays (e : ResponseEntry) (s : State) : (placeEntry e s).relays = s.relays := rfl
@[simp] theorem placeEntry_evaluator (e : ResponseEntry) (s : State) : (placeEntry e s).evaluator = s.evaluator := rfl
@[simp] theorem placeEntry_indications (e : ResponseEntry) (s : State) : (placeEntry e s).indications = s.indications := rfl
@[simp] theorem placeEntry_report (e : ResponseEntry) (s : State) : (placeEntry e s).report = s.report := rfl
@[simp] theorem placeEntry_reader (e : ResponseEntry) (s : State) : (placeEntry e s).reader = s.reader := rfl
@[simp] theorem placeEntry_tables (e : ResponseEntry) (s : State) : (placeEntry e s).tables = s.tables := rfl
@[simp] theorem placeEntry_conditions (e : ResponseEntry) (s : State) : (placeEntry e s).conditions = s.conditions := rfl
@[simp] theorem placeEntry_choices (e : ResponseEntry) (s : State) : (placeEntry e s).choices = s.choices := rfl
@[simp] theorem placeEntry_pending (e : ResponseEntry) (s : State) : (placeEntry e s).pending = s.pending := rfl

@[simp] theorem releasePromise_time (s : State) : (releasePromise s).time = s.time := rfl
@[simp] theorem releasePromise_lanes (s : State) : (releasePromise s).lanes = s.lanes := rfl
@[simp] theorem releasePromise_inbox (s : State) : (releasePromise s).inbox = s.inbox := rfl
@[simp] theorem releasePromise_cards (s : State) : (releasePromise s).cards = s.cards := rfl
@[simp] theorem releasePromise_frameQueue (s : State) : (releasePromise s).frameQueue = s.frameQueue := rfl
@[simp] theorem releasePromise_engine (s : State) : (releasePromise s).engine = s.engine := rfl
@[simp] theorem releasePromise_input (s : State) : (releasePromise s).input = s.input := rfl
@[simp] theorem releasePromise_relays (s : State) : (releasePromise s).relays = s.relays := rfl
@[simp] theorem releasePromise_evaluator (s : State) : (releasePromise s).evaluator = s.evaluator := rfl
@[simp] theorem releasePromise_indications (s : State) : (releasePromise s).indications = s.indications := rfl
@[simp] theorem releasePromise_report (s : State) : (releasePromise s).report = s.report := rfl
@[simp] theorem releasePromise_reader (s : State) : (releasePromise s).reader = s.reader := rfl
@[simp] theorem releasePromise_tables (s : State) : (releasePromise s).tables = s.tables := rfl
@[simp] theorem releasePromise_conditions (s : State) : (releasePromise s).conditions = s.conditions := rfl
@[simp] theorem releasePromise_choices (s : State) : (releasePromise s).choices = s.choices := rfl
@[simp] theorem releasePromise_pending (s : State) : (releasePromise s).pending = s.pending := rfl

@[simp] theorem answerEntry_time (q : Request) (e : ResponseEntry) (s : State) : (answerEntry q e s).time = s.time := by unfold answerEntry; split <;> rfl
@[simp] theorem answerEntry_lanes (q : Request) (e : ResponseEntry) (s : State) : (answerEntry q e s).lanes = s.lanes := by unfold answerEntry; split <;> rfl
@[simp] theorem answerEntry_inbox (q : Request) (e : ResponseEntry) (s : State) : (answerEntry q e s).inbox = s.inbox := by unfold answerEntry; split <;> rfl
@[simp] theorem answerEntry_cards (q : Request) (e : ResponseEntry) (s : State) : (answerEntry q e s).cards = s.cards := by unfold answerEntry; split <;> rfl
@[simp] theorem answerEntry_frameQueue (q : Request) (e : ResponseEntry) (s : State) : (answerEntry q e s).frameQueue = s.frameQueue := by unfold answerEntry; split <;> rfl
@[simp] theorem answerEntry_engine (q : Request) (e : ResponseEntry) (s : State) : (answerEntry q e s).engine = s.engine := by unfold answerEntry; split <;> rfl
@[simp] theorem answerEntry_input (q : Request) (e : ResponseEntry) (s : State) : (answerEntry q e s).input = s.input := by unfold answerEntry; split <;> rfl
@[simp] theorem answerEntry_relays (q : Request) (e : ResponseEntry) (s : State) : (answerEntry q e s).relays = s.relays := by unfold answerEntry; split <;> rfl
@[simp] theorem answerEntry_evaluator (q : Request) (e : ResponseEntry) (s : State) : (answerEntry q e s).evaluator = s.evaluator := by unfold answerEntry; split <;> rfl
@[simp] theorem answerEntry_indications (q : Request) (e : ResponseEntry) (s : State) : (answerEntry q e s).indications = s.indications := by unfold answerEntry; split <;> rfl
@[simp] theorem answerEntry_report (q : Request) (e : ResponseEntry) (s : State) : (answerEntry q e s).report = s.report := by unfold answerEntry; split <;> rfl
@[simp] theorem answerEntry_reader (q : Request) (e : ResponseEntry) (s : State) : (answerEntry q e s).reader = s.reader := by unfold answerEntry; split <;> rfl
@[simp] theorem answerEntry_tables (q : Request) (e : ResponseEntry) (s : State) : (answerEntry q e s).tables = s.tables := by unfold answerEntry; split <;> rfl
@[simp] theorem answerEntry_conditions (q : Request) (e : ResponseEntry) (s : State) : (answerEntry q e s).conditions = s.conditions := by unfold answerEntry; split <;> rfl
@[simp] theorem answerEntry_choices (q : Request) (e : ResponseEntry) (s : State) : (answerEntry q e s).choices = s.choices := by unfold answerEntry; split <;> rfl
@[simp] theorem answerEntry_pending (q : Request) (e : ResponseEntry) (s : State) : (answerEntry q e s).pending = s.pending := by unfold answerEntry; split <;> rfl

@[simp] theorem answer_time (q : Request) (st : AnswerStatus) (b : List Byte) (s : State) : (answer q st b s).time = s.time := by simp [answer]
@[simp] theorem answer_lanes (q : Request) (st : AnswerStatus) (b : List Byte) (s : State) : (answer q st b s).lanes = s.lanes := by simp [answer]
@[simp] theorem answer_inbox (q : Request) (st : AnswerStatus) (b : List Byte) (s : State) : (answer q st b s).inbox = s.inbox := by simp [answer]
@[simp] theorem answer_cards (q : Request) (st : AnswerStatus) (b : List Byte) (s : State) : (answer q st b s).cards = s.cards := by simp [answer]
@[simp] theorem answer_frameQueue (q : Request) (st : AnswerStatus) (b : List Byte) (s : State) : (answer q st b s).frameQueue = s.frameQueue := by simp [answer]
@[simp] theorem answer_engine (q : Request) (st : AnswerStatus) (b : List Byte) (s : State) : (answer q st b s).engine = s.engine := by simp [answer]
@[simp] theorem answer_input (q : Request) (st : AnswerStatus) (b : List Byte) (s : State) : (answer q st b s).input = s.input := by simp [answer]
@[simp] theorem answer_relays (q : Request) (st : AnswerStatus) (b : List Byte) (s : State) : (answer q st b s).relays = s.relays := by simp [answer]
@[simp] theorem answer_evaluator (q : Request) (st : AnswerStatus) (b : List Byte) (s : State) : (answer q st b s).evaluator = s.evaluator := by simp [answer]
@[simp] theorem answer_indications (q : Request) (st : AnswerStatus) (b : List Byte) (s : State) : (answer q st b s).indications = s.indications := by simp [answer]
@[simp] theorem answer_report (q : Request) (st : AnswerStatus) (b : List Byte) (s : State) : (answer q st b s).report = s.report := by simp [answer]
@[simp] theorem answer_reader (q : Request) (st : AnswerStatus) (b : List Byte) (s : State) : (answer q st b s).reader = s.reader := by simp [answer]
@[simp] theorem answer_tables (q : Request) (st : AnswerStatus) (b : List Byte) (s : State) : (answer q st b s).tables = s.tables := by simp [answer]
@[simp] theorem answer_conditions (q : Request) (st : AnswerStatus) (b : List Byte) (s : State) : (answer q st b s).conditions = s.conditions := by simp [answer]
@[simp] theorem answer_choices (q : Request) (st : AnswerStatus) (b : List Byte) (s : State) : (answer q st b s).choices = s.choices := by simp [answer]
@[simp] theorem answer_pending (q : Request) (st : AnswerStatus) (b : List Byte) (s : State) : (answer q st b s).pending = s.pending := by simp [answer]

@[simp] theorem deferAnswer_time (w : CommitWork) (st : AnswerStatus) (b : List Byte) (s : State) : (deferAnswer w st b s).time = s.time := by unfold deferAnswer; split <;> rfl
@[simp] theorem deferAnswer_lanes (w : CommitWork) (st : AnswerStatus) (b : List Byte) (s : State) : (deferAnswer w st b s).lanes = s.lanes := by unfold deferAnswer; split <;> rfl
@[simp] theorem deferAnswer_inbox (w : CommitWork) (st : AnswerStatus) (b : List Byte) (s : State) : (deferAnswer w st b s).inbox = s.inbox := by unfold deferAnswer; split <;> rfl
@[simp] theorem deferAnswer_cards (w : CommitWork) (st : AnswerStatus) (b : List Byte) (s : State) : (deferAnswer w st b s).cards = s.cards := by unfold deferAnswer; split <;> rfl
@[simp] theorem deferAnswer_frameQueue (w : CommitWork) (st : AnswerStatus) (b : List Byte) (s : State) : (deferAnswer w st b s).frameQueue = s.frameQueue := by unfold deferAnswer; split <;> rfl
@[simp] theorem deferAnswer_engine (w : CommitWork) (st : AnswerStatus) (b : List Byte) (s : State) : (deferAnswer w st b s).engine = s.engine := by unfold deferAnswer; split <;> rfl
@[simp] theorem deferAnswer_input (w : CommitWork) (st : AnswerStatus) (b : List Byte) (s : State) : (deferAnswer w st b s).input = s.input := by unfold deferAnswer; split <;> rfl
@[simp] theorem deferAnswer_relays (w : CommitWork) (st : AnswerStatus) (b : List Byte) (s : State) : (deferAnswer w st b s).relays = s.relays := by unfold deferAnswer; split <;> rfl
@[simp] theorem deferAnswer_evaluator (w : CommitWork) (st : AnswerStatus) (b : List Byte) (s : State) : (deferAnswer w st b s).evaluator = s.evaluator := by unfold deferAnswer; split <;> rfl
@[simp] theorem deferAnswer_indications (w : CommitWork) (st : AnswerStatus) (b : List Byte) (s : State) : (deferAnswer w st b s).indications = s.indications := by unfold deferAnswer; split <;> rfl
@[simp] theorem deferAnswer_report (w : CommitWork) (st : AnswerStatus) (b : List Byte) (s : State) : (deferAnswer w st b s).report = s.report := by unfold deferAnswer; split <;> rfl
@[simp] theorem deferAnswer_reader (w : CommitWork) (st : AnswerStatus) (b : List Byte) (s : State) : (deferAnswer w st b s).reader = s.reader := by unfold deferAnswer; split <;> rfl
@[simp] theorem deferAnswer_tables (w : CommitWork) (st : AnswerStatus) (b : List Byte) (s : State) : (deferAnswer w st b s).tables = s.tables := by unfold deferAnswer; split <;> rfl
@[simp] theorem deferAnswer_conditions (w : CommitWork) (st : AnswerStatus) (b : List Byte) (s : State) : (deferAnswer w st b s).conditions = s.conditions := by unfold deferAnswer; split <;> rfl
@[simp] theorem deferAnswer_choices (w : CommitWork) (st : AnswerStatus) (b : List Byte) (s : State) : (deferAnswer w st b s).choices = s.choices := by unfold deferAnswer; split <;> rfl
@[simp] theorem deferAnswer_pending (w : CommitWork) (st : AnswerStatus) (b : List Byte) (s : State) : (deferAnswer w st b s).pending = s.pending := by unfold deferAnswer; split <;> rfl

@[simp] theorem countBroadcastDrop_time (s : State) : (countBroadcastDrop s).time = s.time := rfl
@[simp] theorem countBroadcastDrop_lanes (s : State) : (countBroadcastDrop s).lanes = s.lanes := rfl
@[simp] theorem countBroadcastDrop_inbox (s : State) : (countBroadcastDrop s).inbox = s.inbox := rfl
@[simp] theorem countBroadcastDrop_cards (s : State) : (countBroadcastDrop s).cards = s.cards := rfl
@[simp] theorem countBroadcastDrop_frameQueue (s : State) : (countBroadcastDrop s).frameQueue = s.frameQueue := rfl
@[simp] theorem countBroadcastDrop_engine (s : State) : (countBroadcastDrop s).engine = s.engine := rfl
@[simp] theorem countBroadcastDrop_input (s : State) : (countBroadcastDrop s).input = s.input := rfl
@[simp] theorem countBroadcastDrop_relays (s : State) : (countBroadcastDrop s).relays = s.relays := rfl
@[simp] theorem countBroadcastDrop_evaluator (s : State) : (countBroadcastDrop s).evaluator = s.evaluator := rfl
@[simp] theorem countBroadcastDrop_indications (s : State) : (countBroadcastDrop s).indications = s.indications := rfl
@[simp] theorem countBroadcastDrop_report (s : State) : (countBroadcastDrop s).report = s.report := rfl
@[simp] theorem countBroadcastDrop_reader (s : State) : (countBroadcastDrop s).reader = s.reader := rfl
@[simp] theorem countBroadcastDrop_tables (s : State) : (countBroadcastDrop s).tables = s.tables := rfl
@[simp] theorem countBroadcastDrop_conditions (s : State) : (countBroadcastDrop s).conditions = s.conditions := rfl
@[simp] theorem countBroadcastDrop_choices (s : State) : (countBroadcastDrop s).choices = s.choices := rfl
@[simp] theorem countBroadcastDrop_pending (s : State) : (countBroadcastDrop s).pending = s.pending := rfl

@[simp] theorem handOnAll_time (qs : List Request) (s : State) : (handOnAll qs s).time = s.time := by
  induction qs generalizing s with
  | nil => rfl
  | cons q qs ih => unfold handOnAll; split <;> simp [ih]
@[simp] theorem handOnAll_lanes (qs : List Request) (s : State) : (handOnAll qs s).lanes = s.lanes := by
  induction qs generalizing s with
  | nil => rfl
  | cons q qs ih => unfold handOnAll; split <;> simp [ih]
@[simp] theorem handOnAll_inbox (qs : List Request) (s : State) : (handOnAll qs s).inbox = s.inbox := by
  induction qs generalizing s with
  | nil => rfl
  | cons q qs ih => unfold handOnAll; split <;> simp [ih]
@[simp] theorem handOnAll_cards (qs : List Request) (s : State) : (handOnAll qs s).cards = s.cards := by
  induction qs generalizing s with
  | nil => rfl
  | cons q qs ih => unfold handOnAll; split <;> simp [ih]
@[simp] theorem handOnAll_frameQueue (qs : List Request) (s : State) : (handOnAll qs s).frameQueue = s.frameQueue := by
  induction qs generalizing s with
  | nil => rfl
  | cons q qs ih => unfold handOnAll; split <;> simp [ih]
@[simp] theorem handOnAll_engine (qs : List Request) (s : State) : (handOnAll qs s).engine = s.engine := by
  induction qs generalizing s with
  | nil => rfl
  | cons q qs ih => unfold handOnAll; split <;> simp [ih]
@[simp] theorem handOnAll_input (qs : List Request) (s : State) : (handOnAll qs s).input = s.input := by
  induction qs generalizing s with
  | nil => rfl
  | cons q qs ih => unfold handOnAll; split <;> simp [ih]
@[simp] theorem handOnAll_relays (qs : List Request) (s : State) : (handOnAll qs s).relays = s.relays := by
  induction qs generalizing s with
  | nil => rfl
  | cons q qs ih => unfold handOnAll; split <;> simp [ih]
@[simp] theorem handOnAll_evaluator (qs : List Request) (s : State) : (handOnAll qs s).evaluator = s.evaluator := by
  induction qs generalizing s with
  | nil => rfl
  | cons q qs ih => unfold handOnAll; split <;> simp [ih]
@[simp] theorem handOnAll_indications (qs : List Request) (s : State) : (handOnAll qs s).indications = s.indications := by
  induction qs generalizing s with
  | nil => rfl
  | cons q qs ih => unfold handOnAll; split <;> simp [ih]
@[simp] theorem handOnAll_report (qs : List Request) (s : State) : (handOnAll qs s).report = s.report := by
  induction qs generalizing s with
  | nil => rfl
  | cons q qs ih => unfold handOnAll; split <;> simp [ih]
@[simp] theorem handOnAll_reader (qs : List Request) (s : State) : (handOnAll qs s).reader = s.reader := by
  induction qs generalizing s with
  | nil => rfl
  | cons q qs ih => unfold handOnAll; split <;> simp [ih]
@[simp] theorem handOnAll_tables (qs : List Request) (s : State) : (handOnAll qs s).tables = s.tables := by
  induction qs generalizing s with
  | nil => rfl
  | cons q qs ih => unfold handOnAll; split <;> simp [ih]
@[simp] theorem handOnAll_conditions (qs : List Request) (s : State) : (handOnAll qs s).conditions = s.conditions := by
  induction qs generalizing s with
  | nil => rfl
  | cons q qs ih => unfold handOnAll; split <;> simp [ih]
@[simp] theorem handOnAll_choices (qs : List Request) (s : State) : (handOnAll qs s).choices = s.choices := by
  induction qs generalizing s with
  | nil => rfl
  | cons q qs ih => unfold handOnAll; split <;> simp [ih]
@[simp] theorem handOnAll_pending (qs : List Request) (s : State) : (handOnAll qs s).pending = s.pending := by
  induction qs generalizing s with
  | nil => rfl
  | cons q qs ih => unfold handOnAll; split <;> simp [ih]

@[simp] theorem handOn_time (s : State) : (handOn s).time = s.time := by unfold handOn; split <;> simp
@[simp] theorem handOn_lanes (s : State) : (handOn s).lanes = s.lanes := by unfold handOn; split <;> simp
@[simp] theorem handOn_inbox (s : State) : (handOn s).inbox = s.inbox := by unfold handOn; split <;> simp
@[simp] theorem handOn_cards (s : State) : (handOn s).cards = s.cards := by unfold handOn; split <;> simp
@[simp] theorem handOn_frameQueue (s : State) : (handOn s).frameQueue = s.frameQueue := by unfold handOn; split <;> simp
@[simp] theorem handOn_engine (s : State) : (handOn s).engine = s.engine := by unfold handOn; split <;> simp
@[simp] theorem handOn_input (s : State) : (handOn s).input = s.input := by unfold handOn; split <;> simp
@[simp] theorem handOn_relays (s : State) : (handOn s).relays = s.relays := by unfold handOn; split <;> simp
@[simp] theorem handOn_evaluator (s : State) : (handOn s).evaluator = s.evaluator := by unfold handOn; split <;> simp
@[simp] theorem handOn_indications (s : State) : (handOn s).indications = s.indications := by unfold handOn; split <;> simp
@[simp] theorem handOn_report (s : State) : (handOn s).report = s.report := by unfold handOn; split <;> simp
@[simp] theorem handOn_reader (s : State) : (handOn s).reader = s.reader := by unfold handOn; split <;> simp
@[simp] theorem handOn_tables (s : State) : (handOn s).tables = s.tables := by unfold handOn; split <;> simp
@[simp] theorem handOn_conditions (s : State) : (handOn s).conditions = s.conditions := by unfold handOn; split <;> simp
@[simp] theorem handOn_choices (s : State) : (handOn s).choices = s.choices := by unfold handOn; split <;> simp
@[simp] theorem handOn_pending (s : State) : (handOn s).pending = s.pending := by unfold handOn; split <;> simp

@[simp] theorem takeRequest_time (q : Request) (s : State) : (takeRequest q s).time = s.time := by simp [takeRequest]
@[simp] theorem takeRequest_lanes (q : Request) (s : State) : (takeRequest q s).lanes = s.lanes := by simp [takeRequest]
@[simp] theorem takeRequest_inbox (q : Request) (s : State) : (takeRequest q s).inbox = s.inbox := by simp [takeRequest]
@[simp] theorem takeRequest_cards (q : Request) (s : State) : (takeRequest q s).cards = s.cards := by simp [takeRequest]
@[simp] theorem takeRequest_frameQueue (q : Request) (s : State) : (takeRequest q s).frameQueue = s.frameQueue := by simp [takeRequest]
@[simp] theorem takeRequest_engine (q : Request) (s : State) : (takeRequest q s).engine = s.engine := by simp [takeRequest]
@[simp] theorem takeRequest_input (q : Request) (s : State) : (takeRequest q s).input = s.input := by simp [takeRequest]
@[simp] theorem takeRequest_relays (q : Request) (s : State) : (takeRequest q s).relays = s.relays := by simp [takeRequest]
@[simp] theorem takeRequest_evaluator (q : Request) (s : State) : (takeRequest q s).evaluator = s.evaluator := by simp [takeRequest]
@[simp] theorem takeRequest_indications (q : Request) (s : State) : (takeRequest q s).indications = s.indications := by simp [takeRequest]
@[simp] theorem takeRequest_report (q : Request) (s : State) : (takeRequest q s).report = s.report := by simp [takeRequest]
@[simp] theorem takeRequest_reader (q : Request) (s : State) : (takeRequest q s).reader = s.reader := by simp [takeRequest]
@[simp] theorem takeRequest_tables (q : Request) (s : State) : (takeRequest q s).tables = s.tables := by simp [takeRequest]
@[simp] theorem takeRequest_conditions (q : Request) (s : State) : (takeRequest q s).conditions = s.conditions := by simp [takeRequest]
@[simp] theorem takeRequest_choices (q : Request) (s : State) : (takeRequest q s).choices = s.choices := by simp [takeRequest]
@[simp] theorem takeRequest_pending (q : Request) (s : State) : (takeRequest q s).pending = s.pending := by simp [takeRequest]

@[simp] theorem dropRequest_time (s : State) : (dropRequest s).time = s.time := rfl
@[simp] theorem dropRequest_lanes (s : State) : (dropRequest s).lanes = s.lanes := rfl
@[simp] theorem dropRequest_inbox (s : State) : (dropRequest s).inbox = s.inbox := rfl
@[simp] theorem dropRequest_cards (s : State) : (dropRequest s).cards = s.cards := rfl
@[simp] theorem dropRequest_frameQueue (s : State) : (dropRequest s).frameQueue = s.frameQueue := rfl
@[simp] theorem dropRequest_engine (s : State) : (dropRequest s).engine = s.engine := rfl
@[simp] theorem dropRequest_input (s : State) : (dropRequest s).input = s.input := rfl
@[simp] theorem dropRequest_relays (s : State) : (dropRequest s).relays = s.relays := rfl
@[simp] theorem dropRequest_evaluator (s : State) : (dropRequest s).evaluator = s.evaluator := rfl
@[simp] theorem dropRequest_indications (s : State) : (dropRequest s).indications = s.indications := rfl
@[simp] theorem dropRequest_report (s : State) : (dropRequest s).report = s.report := rfl
@[simp] theorem dropRequest_reader (s : State) : (dropRequest s).reader = s.reader := rfl
@[simp] theorem dropRequest_tables (s : State) : (dropRequest s).tables = s.tables := rfl
@[simp] theorem dropRequest_conditions (s : State) : (dropRequest s).conditions = s.conditions := rfl
@[simp] theorem dropRequest_choices (s : State) : (dropRequest s).choices = s.choices := rfl
@[simp] theorem dropRequest_pending (s : State) : (dropRequest s).pending = s.pending := rfl

/-! ### What each operation does -/

/-- A card's context written: the context, and the known flags it gives. -/
theorem putCard_spec (n m : CardIdx) (c : CardContext) (s : State) :
    (putCard n c s).cards[m] = (if n = m then c else s.cards[m]) ∧
      (putCard n c s).input.known[m] = (if n = m then knownFlags c else s.input.known[m]) ∧
      (putCard n c s).input.values = s.input.values := by
  refine ⟨?_, ?_, rfl⟩ <;> simp [putCard, Vector.getElem_set, Fin.ext_iff]

/-- A pass found past its relays has its place there, unless it was found further. -/
theorem pastRelays_evaluator (acts : Bool) (s : State) :
    (pastRelays acts s).evaluator =
      { s.evaluator with
        pass := s.evaluator.pass.map fun p => if acts then { p with place := max p.place 768 } else p } := by
  cases acts
  · simp [pastRelays]
  · unfold pastRelays foundAt
    cases h : s.evaluator.pass with
    | none => simp only [if_true, Option.map_none]; rw [← h]
    | some p => rfl

/-- Where a pass is found does not say whether work is in flight. -/
@[simp] theorem pastRelays_evaluatorFree (acts : Bool) (s : State) :
    (pastRelays acts s).evaluatorFree = s.evaluatorFree := by
  simp only [State.evaluatorFree, pastRelays_engine, pastRelays_evaluator]

/-- A card's change reaches the Relay Evaluator as `cardEvents` says; an event sent while no work is in flight is in flight
at once, and no earlier pass is then; otherwise a relay pass of the card that may be in flight is past its relays when the
known flags change. -/
theorem announceCard_evaluator (n : CardIdx) (t : Time) (b : CardContext) (es : List ConditionIdx) (s : State) :
    (announceCard n t b es s).evaluator =
      let takenAtOnce := s.evaluatorFree && !(cardEvents n t b s.cards[n]).isEmpty
      { s.evaluator with
        events := s.evaluator.events ++ cardEvents n t b s.cards[n]
        inFlight := s.evaluator.inFlight || takenAtOnce
        pass := if takenAtOnce then none else s.evaluator.pass.map fun p =>
          if p.card = some n ∧ knownFlags b ≠ knownFlags s.cards[n] then { p with place := max p.place 768 } else p } := by
  simp only [announceCard, announce_evaluator, sendEvents, setEvaluator_evaluator, pastRelays_evaluator,
    pastRelays_evaluatorFree]
  congr 2
  cases h : s.evaluator.pass <;> simp [State.passReads, h]

/-- An answer: the promise becomes the newest entry; without a promise nothing happens. -/
theorem answer_spec (q : Request) (st : AnswerStatus) (b : List Byte) (s : State) :
    (answer q st b s).link =
      if q.promised then
        { s.link with
          promises := s.link.promises - 1
          responses := s.link.responses ++ [⟨responseFrame s q.source q.tag q.code st b, false⟩] }
      else s.link := by
  unfold answer answerEntry; split <;> rfl

/-- A deferred answer joins those that wait for room. -/
theorem deferAnswer_spec (w : CommitWork) (st : AnswerStatus) (b : List Byte) (s : State) :
    (deferAnswer w st b s).link =
      if w.answered then
        { s.link with deferred := s.link.deferred ++ [responseFrame s w.source w.tag commitCode st b] }
      else s.link := by
  unfold deferAnswer; split <;> rfl

/-- With no request waiting there is nothing to hand on. -/
theorem handOn_nil (s : State) (h : s.link.requests = []) : handOn s = s := by
  unfold handOn; split
  · rfl
  · rw [h]; show s.setLink { s.link with requests := [] } = s; rw [← h]; rfl

/-- The owner's row acts on the oldest request when it is handed to that owner and no swap is in progress. -/
theorem serve_head (mine : Request → Bool) (act : Request → State → State) (s : State) (q : Request) (qs : List Request)
    (hs : s.swapping = false) (hq : s.link.requests = q :: qs) (hh : handing q = .toOwner) (hm : mine q = true) :
    serve mine act s = handOn (act q (dropRequest s)) := by
  simp [serve, State.handed, hs, hq, hh, hm]

/-- The owner's row waits while a swap is in progress. -/
theorem serve_swapping (mine : Request → Bool) (act : Request → State → State) (s : State) (hs : s.swapping = true) :
    serve mine act s = s := by
  simp [serve, State.handed, hs]

end Sys2Proof.Laws
end

