-- ==== Sys2Proof/Laws/Conversion.lean ====
section
/-! SUPPORT. What the relay pass, the card events and the indication pass leave alone, field by field, and how one relay's
record is written. -/

namespace Sys2Proof.Laws

open Sys2Proof.Machine

@[simp] theorem beginPass_time (c : Option CardIdx) (s : State) : (beginPass c s).time = s.time := rfl
@[simp] theorem beginPass_lanes (c : Option CardIdx) (s : State) : (beginPass c s).lanes = s.lanes := rfl
@[simp] theorem beginPass_inbox (c : Option CardIdx) (s : State) : (beginPass c s).inbox = s.inbox := rfl
@[simp] theorem beginPass_cards (c : Option CardIdx) (s : State) : (beginPass c s).cards = s.cards := rfl
@[simp] theorem beginPass_frameQueue (c : Option CardIdx) (s : State) : (beginPass c s).frameQueue = s.frameQueue := rfl
@[simp] theorem beginPass_engine (c : Option CardIdx) (s : State) : (beginPass c s).engine = s.engine := rfl
@[simp] theorem beginPass_input (c : Option CardIdx) (s : State) : (beginPass c s).input = s.input := rfl
@[simp] theorem beginPass_relays (c : Option CardIdx) (s : State) : (beginPass c s).relays = s.relays := rfl
@[simp] theorem beginPass_indications (c : Option CardIdx) (s : State) : (beginPass c s).indications = s.indications := rfl
@[simp] theorem beginPass_report (c : Option CardIdx) (s : State) : (beginPass c s).report = s.report := rfl
@[simp] theorem beginPass_reader (c : Option CardIdx) (s : State) : (beginPass c s).reader = s.reader := rfl
@[simp] theorem beginPass_tables (c : Option CardIdx) (s : State) : (beginPass c s).tables = s.tables := rfl
@[simp] theorem beginPass_link (c : Option CardIdx) (s : State) : (beginPass c s).link = s.link := rfl
@[simp] theorem beginPass_conditions (c : Option CardIdx) (s : State) : (beginPass c s).conditions = s.conditions := rfl
@[simp] theorem beginPass_choices (c : Option CardIdx) (s : State) : (beginPass c s).choices = s.choices := rfl
@[simp] theorem beginPass_pending (c : Option CardIdx) (s : State) : (beginPass c s).pending = s.pending := rfl

@[simp] theorem endPass_time (s : State) : (endPass s).time = s.time := rfl
@[simp] theorem endPass_lanes (s : State) : (endPass s).lanes = s.lanes := rfl
@[simp] theorem endPass_inbox (s : State) : (endPass s).inbox = s.inbox := rfl
@[simp] theorem endPass_cards (s : State) : (endPass s).cards = s.cards := rfl
@[simp] theorem endPass_frameQueue (s : State) : (endPass s).frameQueue = s.frameQueue := rfl
@[simp] theorem endPass_engine (s : State) : (endPass s).engine = s.engine := rfl
@[simp] theorem endPass_input (s : State) : (endPass s).input = s.input := rfl
@[simp] theorem endPass_relays (s : State) : (endPass s).relays = s.relays := rfl
@[simp] theorem endPass_indications (s : State) : (endPass s).indications = s.indications := rfl
@[simp] theorem endPass_report (s : State) : (endPass s).report = s.report := rfl
@[simp] theorem endPass_reader (s : State) : (endPass s).reader = s.reader := rfl
@[simp] theorem endPass_tables (s : State) : (endPass s).tables = s.tables := rfl
@[simp] theorem endPass_link (s : State) : (endPass s).link = s.link := rfl
@[simp] theorem endPass_conditions (s : State) : (endPass s).conditions = s.conditions := rfl
@[simp] theorem endPass_choices (s : State) : (endPass s).choices = s.choices := rfl
@[simp] theorem endPass_pending (s : State) : (endPass s).pending = s.pending := rfl

@[simp] theorem storeRelay_time (r : RelayIdx) (x : RelayRuntime) (s : State) : (storeRelay r x s).time = s.time := by
  unfold storeRelay; dsimp only; split <;> split <;> simp
@[simp] theorem storeRelay_lanes (r : RelayIdx) (x : RelayRuntime) (s : State) : (storeRelay r x s).lanes = s.lanes := by
  unfold storeRelay; dsimp only; split <;> split <;> simp
@[simp] theorem storeRelay_inbox (r : RelayIdx) (x : RelayRuntime) (s : State) : (storeRelay r x s).inbox = s.inbox := by
  unfold storeRelay; dsimp only; split <;> split <;> simp
@[simp] theorem storeRelay_cards (r : RelayIdx) (x : RelayRuntime) (s : State) : (storeRelay r x s).cards = s.cards := by
  unfold storeRelay; dsimp only; split <;> split <;> simp
@[simp] theorem storeRelay_frameQueue (r : RelayIdx) (x : RelayRuntime) (s : State) : (storeRelay r x s).frameQueue = s.frameQueue := by
  unfold storeRelay; dsimp only; split <;> split <;> simp
@[simp] theorem storeRelay_engine (r : RelayIdx) (x : RelayRuntime) (s : State) : (storeRelay r x s).engine = s.engine := by
  unfold storeRelay; dsimp only; split <;> split <;> simp
@[simp] theorem storeRelay_input (r : RelayIdx) (x : RelayRuntime) (s : State) : (storeRelay r x s).input = s.input := by
  unfold storeRelay; dsimp only; split <;> split <;> simp
@[simp] theorem storeRelay_indications (r : RelayIdx) (x : RelayRuntime) (s : State) : (storeRelay r x s).indications = s.indications := by
  unfold storeRelay; dsimp only; split <;> split <;> simp
@[simp] theorem storeRelay_reader (r : RelayIdx) (x : RelayRuntime) (s : State) : (storeRelay r x s).reader = s.reader := by
  unfold storeRelay; dsimp only; split <;> split <;> simp
@[simp] theorem storeRelay_tables (r : RelayIdx) (x : RelayRuntime) (s : State) : (storeRelay r x s).tables = s.tables := by
  unfold storeRelay; dsimp only; split <;> split <;> simp
@[simp] theorem storeRelay_link (r : RelayIdx) (x : RelayRuntime) (s : State) : (storeRelay r x s).link = s.link := by
  unfold storeRelay; dsimp only; split <;> split <;> simp
@[simp] theorem storeRelay_pending (r : RelayIdx) (x : RelayRuntime) (s : State) : (storeRelay r x s).pending = s.pending := by
  unfold storeRelay; dsimp only; split <;> split <;> simp

@[simp] theorem advanceRelay_time (n : CardIdx) (t : Time) (r : RelayIdx) (s : State) : (advanceRelay n t s r).time = s.time := by simp [advanceRelay]
@[simp] theorem advanceRelay_lanes (n : CardIdx) (t : Time) (r : RelayIdx) (s : State) : (advanceRelay n t s r).lanes = s.lanes := by simp [advanceRelay]
@[simp] theorem advanceRelay_inbox (n : CardIdx) (t : Time) (r : RelayIdx) (s : State) : (advanceRelay n t s r).inbox = s.inbox := by simp [advanceRelay]
@[simp] theorem advanceRelay_cards (n : CardIdx) (t : Time) (r : RelayIdx) (s : State) : (advanceRelay n t s r).cards = s.cards := by simp [advanceRelay]
@[simp] theorem advanceRelay_frameQueue (n : CardIdx) (t : Time) (r : RelayIdx) (s : State) : (advanceRelay n t s r).frameQueue = s.frameQueue := by simp [advanceRelay]
@[simp] theorem advanceRelay_engine (n : CardIdx) (t : Time) (r : RelayIdx) (s : State) : (advanceRelay n t s r).engine = s.engine := by simp [advanceRelay]
@[simp] theorem advanceRelay_input (n : CardIdx) (t : Time) (r : RelayIdx) (s : State) : (advanceRelay n t s r).input = s.input := by simp [advanceRelay]
@[simp] theorem advanceRelay_indications (n : CardIdx) (t : Time) (r : RelayIdx) (s : State) : (advanceRelay n t s r).indications = s.indications := by simp [advanceRelay]
@[simp] theorem advanceRelay_reader (n : CardIdx) (t : Time) (r : RelayIdx) (s : State) : (advanceRelay n t s r).reader = s.reader := by simp [advanceRelay]
@[simp] theorem advanceRelay_tables (n : CardIdx) (t : Time) (r : RelayIdx) (s : State) : (advanceRelay n t s r).tables = s.tables := by simp [advanceRelay]
@[simp] theorem advanceRelay_link (n : CardIdx) (t : Time) (r : RelayIdx) (s : State) : (advanceRelay n t s r).link = s.link := by simp [advanceRelay]
@[simp] theorem advanceRelay_pending (n : CardIdx) (t : Time) (r : RelayIdx) (s : State) : (advanceRelay n t s r).pending = s.pending := by simp [advanceRelay]

theorem foldl_advanceRelay_time (n : CardIdx) (t : Time) (rs : List RelayIdx) (s : State) :
    (rs.foldl (advanceRelay n t) s).time = s.time := by
  induction rs generalizing s with
  | nil => rfl
  | cons r rs ih => rw [List.foldl_cons, ih, advanceRelay_time]
@[simp] theorem relayPass_time (n : CardIdx) (t : Time) (s : State) : (relayPass n t s).time = s.time :=
  foldl_advanceRelay_time n t _ s
theorem foldl_advanceRelay_lanes (n : CardIdx) (t : Time) (rs : List RelayIdx) (s : State) :
    (rs.foldl (advanceRelay n t) s).lanes = s.lanes := by
  induction rs generalizing s with
  | nil => rfl
  | cons r rs ih => rw [List.foldl_cons, ih, advanceRelay_lanes]
@[simp] theorem relayPass_lanes (n : CardIdx) (t : Time) (s : State) : (relayPass n t s).lanes = s.lanes :=
  foldl_advanceRelay_lanes n t _ s
theorem foldl_advanceRelay_inbox (n : CardIdx) (t : Time) (rs : List RelayIdx) (s : State) :
    (rs.foldl (advanceRelay n t) s).inbox = s.inbox := by
  induction rs generalizing s with
  | nil => rfl
  | cons r rs ih => rw [List.foldl_cons, ih, advanceRelay_inbox]
@[simp] theorem relayPass_inbox (n : CardIdx) (t : Time) (s : State) : (relayPass n t s).inbox = s.inbox :=
  foldl_advanceRelay_inbox n t _ s
theorem foldl_advanceRelay_cards (n : CardIdx) (t : Time) (rs : List RelayIdx) (s : State) :
    (rs.foldl (advanceRelay n t) s).cards = s.cards := by
  induction rs generalizing s with
  | nil => rfl
  | cons r rs ih => rw [List.foldl_cons, ih, advanceRelay_cards]
@[simp] theorem relayPass_cards (n : CardIdx) (t : Time) (s : State) : (relayPass n t s).cards = s.cards :=
  foldl_advanceRelay_cards n t _ s
theorem foldl_advanceRelay_frameQueue (n : CardIdx) (t : Time) (rs : List RelayIdx) (s : State) :
    (rs.foldl (advanceRelay n t) s).frameQueue = s.frameQueue := by
  induction rs generalizing s with
  | nil => rfl
  | cons r rs ih => rw [List.foldl_cons, ih, advanceRelay_frameQueue]
@[simp] theorem relayPass_frameQueue (n : CardIdx) (t : Time) (s : State) : (relayPass n t s).frameQueue = s.frameQueue :=
  foldl_advanceRelay_frameQueue n t _ s
theorem foldl_advanceRelay_engine (n : CardIdx) (t : Time) (rs : List RelayIdx) (s : State) :
    (rs.foldl (advanceRelay n t) s).engine = s.engine := by
  induction rs generalizing s with
  | nil => rfl
  | cons r rs ih => rw [List.foldl_cons, ih, advanceRelay_engine]
@[simp] theorem relayPass_engine (n : CardIdx) (t : Time) (s : State) : (relayPass n t s).engine = s.engine :=
  foldl_advanceRelay_engine n t _ s
theorem foldl_advanceRelay_input (n : CardIdx) (t : Time) (rs : List RelayIdx) (s : State) :
    (rs.foldl (advanceRelay n t) s).input = s.input := by
  induction rs generalizing s with
  | nil => rfl
  | cons r rs ih => rw [List.foldl_cons, ih, advanceRelay_input]
@[simp] theorem relayPass_input (n : CardIdx) (t : Time) (s : State) : (relayPass n t s).input = s.input :=
  foldl_advanceRelay_input n t _ s
theorem foldl_advanceRelay_indications (n : CardIdx) (t : Time) (rs : List RelayIdx) (s : State) :
    (rs.foldl (advanceRelay n t) s).indications = s.indications := by
  induction rs generalizing s with
  | nil => rfl
  | cons r rs ih => rw [List.foldl_cons, ih, advanceRelay_indications]
@[simp] theorem relayPass_indications (n : CardIdx) (t : Time) (s : State) : (relayPass n t s).indications = s.indications :=
  foldl_advanceRelay_indications n t _ s
theorem foldl_advanceRelay_reader (n : CardIdx) (t : Time) (rs : List RelayIdx) (s : State) :
    (rs.foldl (advanceRelay n t) s).reader = s.reader := by
  induction rs generalizing s with
  | nil => rfl
  | cons r rs ih => rw [List.foldl_cons, ih, advanceRelay_reader]
@[simp] theorem relayPass_reader (n : CardIdx) (t : Time) (s : State) : (relayPass n t s).reader = s.reader :=
  foldl_advanceRelay_reader n t _ s
theorem foldl_advanceRelay_tables (n : CardIdx) (t : Time) (rs : List RelayIdx) (s : State) :
    (rs.foldl (advanceRelay n t) s).tables = s.tables := by
  induction rs generalizing s with
  | nil => rfl
  | cons r rs ih => rw [List.foldl_cons, ih, advanceRelay_tables]
@[simp] theorem relayPass_tables (n : CardIdx) (t : Time) (s : State) : (relayPass n t s).tables = s.tables :=
  foldl_advanceRelay_tables n t _ s
theorem foldl_advanceRelay_link (n : CardIdx) (t : Time) (rs : List RelayIdx) (s : State) :
    (rs.foldl (advanceRelay n t) s).link = s.link := by
  induction rs generalizing s with
  | nil => rfl
  | cons r rs ih => rw [List.foldl_cons, ih, advanceRelay_link]
@[simp] theorem relayPass_link (n : CardIdx) (t : Time) (s : State) : (relayPass n t s).link = s.link :=
  foldl_advanceRelay_link n t _ s
theorem foldl_advanceRelay_pending (n : CardIdx) (t : Time) (rs : List RelayIdx) (s : State) :
    (rs.foldl (advanceRelay n t) s).pending = s.pending := by
  induction rs generalizing s with
  | nil => rfl
  | cons r rs ih => rw [List.foldl_cons, ih, advanceRelay_pending]
@[simp] theorem relayPass_pending (n : CardIdx) (t : Time) (s : State) : (relayPass n t s).pending = s.pending :=
  foldl_advanceRelay_pending n t _ s

@[simp] theorem storeIndication_time (report : Bool) (i : IndicationIdx) (c : Option Code) (t : Time) (s : State) :
    (storeIndication report i c t s).time = s.time := by
  unfold storeIndication; split <;> simp
@[simp] theorem storeIndication_lanes (report : Bool) (i : IndicationIdx) (c : Option Code) (t : Time) (s : State) :
    (storeIndication report i c t s).lanes = s.lanes := by
  unfold storeIndication; split <;> simp
@[simp] theorem storeIndication_inbox (report : Bool) (i : IndicationIdx) (c : Option Code) (t : Time) (s : State) :
    (storeIndication report i c t s).inbox = s.inbox := by
  unfold storeIndication; split <;> simp
@[simp] theorem storeIndication_cards (report : Bool) (i : IndicationIdx) (c : Option Code) (t : Time) (s : State) :
    (storeIndication report i c t s).cards = s.cards := by
  unfold storeIndication; split <;> simp
@[simp] theorem storeIndication_frameQueue (report : Bool) (i : IndicationIdx) (c : Option Code) (t : Time) (s : State) :
    (storeIndication report i c t s).frameQueue = s.frameQueue := by
  unfold storeIndication; split <;> simp
@[simp] theorem storeIndication_engine (report : Bool) (i : IndicationIdx) (c : Option Code) (t : Time) (s : State) :
    (storeIndication report i c t s).engine = s.engine := by
  unfold storeIndication; split <;> simp
@[simp] theorem storeIndication_input (report : Bool) (i : IndicationIdx) (c : Option Code) (t : Time) (s : State) :
    (storeIndication report i c t s).input = s.input := by
  unfold storeIndication; split <;> simp
@[simp] theorem storeIndication_relays (report : Bool) (i : IndicationIdx) (c : Option Code) (t : Time) (s : State) :
    (storeIndication report i c t s).relays = s.relays := by
  unfold storeIndication; split <;> simp
@[simp] theorem storeIndication_evaluator (report : Bool) (i : IndicationIdx) (c : Option Code) (t : Time) (s : State) :
    (storeIndication report i c t s).evaluator = s.evaluator := by
  unfold storeIndication; split <;> simp
@[simp] theorem storeIndication_reader (report : Bool) (i : IndicationIdx) (c : Option Code) (t : Time) (s : State) :
    (storeIndication report i c t s).reader = s.reader := by
  unfold storeIndication; split <;> simp
@[simp] theorem storeIndication_tables (report : Bool) (i : IndicationIdx) (c : Option Code) (t : Time) (s : State) :
    (storeIndication report i c t s).tables = s.tables := by
  unfold storeIndication; split <;> simp
@[simp] theorem storeIndication_link (report : Bool) (i : IndicationIdx) (c : Option Code) (t : Time) (s : State) :
    (storeIndication report i c t s).link = s.link := by
  unfold storeIndication; split <;> simp
@[simp] theorem storeIndication_pending (report : Bool) (i : IndicationIdx) (c : Option Code) (t : Time) (s : State) :
    (storeIndication report i c t s).pending = s.pending := by
  unfold storeIndication; split <;> simp

@[simp] theorem evaluateIndication_time (t : Time) (i : IndicationIdx) (s : State) : (evaluateIndication t s i).time = s.time := by
  unfold evaluateIndication; split
  · rfl
  · dsimp only; split <;> simp
@[simp] theorem evaluateIndication_lanes (t : Time) (i : IndicationIdx) (s : State) : (evaluateIndication t s i).lanes = s.lanes := by
  unfold evaluateIndication; split
  · rfl
  · dsimp only; split <;> simp
@[simp] theorem evaluateIndication_inbox (t : Time) (i : IndicationIdx) (s : State) : (evaluateIndication t s i).inbox = s.inbox := by
  unfold evaluateIndication; split
  · rfl
  · dsimp only; split <;> simp
@[simp] theorem evaluateIndication_cards (t : Time) (i : IndicationIdx) (s : State) : (evaluateIndication t s i).cards = s.cards := by
  unfold evaluateIndication; split
  · rfl
  · dsimp only; split <;> simp
@[simp] theorem evaluateIndication_frameQueue (t : Time) (i : IndicationIdx) (s : State) : (evaluateIndication t s i).frameQueue = s.frameQueue := by
  unfold evaluateIndication; split
  · rfl
  · dsimp only; split <;> simp
@[simp] theorem evaluateIndication_engine (t : Time) (i : IndicationIdx) (s : State) : (evaluateIndication t s i).engine = s.engine := by
  unfold evaluateIndication; split
  · rfl
  · dsimp only; split <;> simp
@[simp] theorem evaluateIndication_input (t : Time) (i : IndicationIdx) (s : State) : (evaluateIndication t s i).input = s.input := by
  unfold evaluateIndication; split
  · rfl
  · dsimp only; split <;> simp
@[simp] theorem evaluateIndication_relays (t : Time) (i : IndicationIdx) (s : State) : (evaluateIndication t s i).relays = s.relays := by
  unfold evaluateIndication; split
  · rfl
  · dsimp only; split <;> simp
@[simp] theorem evaluateIndication_evaluator (t : Time) (i : IndicationIdx) (s : State) : (evaluateIndication t s i).evaluator = s.evaluator := by
  unfold evaluateIndication; split
  · rfl
  · dsimp only; split <;> simp
@[simp] theorem evaluateIndication_reader (t : Time) (i : IndicationIdx) (s : State) : (evaluateIndication t s i).reader = s.reader := by
  unfold evaluateIndication; split
  · rfl
  · dsimp only; split <;> simp
@[simp] theorem evaluateIndication_tables (t : Time) (i : IndicationIdx) (s : State) : (evaluateIndication t s i).tables = s.tables := by
  unfold evaluateIndication; split
  · rfl
  · dsimp only; split <;> simp
@[simp] theorem evaluateIndication_link (t : Time) (i : IndicationIdx) (s : State) : (evaluateIndication t s i).link = s.link := by
  unfold evaluateIndication; split
  · rfl
  · dsimp only; split <;> simp
@[simp] theorem evaluateIndication_pending (t : Time) (i : IndicationIdx) (s : State) : (evaluateIndication t s i).pending = s.pending := by
  unfold evaluateIndication; split
  · rfl
  · dsimp only; split <;> simp

theorem foldl_evaluateIndication_time (t : Time) (xs : List IndicationIdx) (s : State) :
    (xs.foldl (evaluateIndication t) s).time = s.time := by
  induction xs generalizing s with
  | nil => rfl
  | cons i xs ih => rw [List.foldl_cons, ih, evaluateIndication_time]
theorem foldl_evaluateIndication_lanes (t : Time) (xs : List IndicationIdx) (s : State) :
    (xs.foldl (evaluateIndication t) s).lanes = s.lanes := by
  induction xs generalizing s with
  | nil => rfl
  | cons i xs ih => rw [List.foldl_cons, ih, evaluateIndication_lanes]
theorem foldl_evaluateIndication_inbox (t : Time) (xs : List IndicationIdx) (s : State) :
    (xs.foldl (evaluateIndication t) s).inbox = s.inbox := by
  induction xs generalizing s with
  | nil => rfl
  | cons i xs ih => rw [List.foldl_cons, ih, evaluateIndication_inbox]
theorem foldl_evaluateIndication_cards (t : Time) (xs : List IndicationIdx) (s : State) :
    (xs.foldl (evaluateIndication t) s).cards = s.cards := by
  induction xs generalizing s with
  | nil => rfl
  | cons i xs ih => rw [List.foldl_cons, ih, evaluateIndication_cards]
theorem foldl_evaluateIndication_frameQueue (t : Time) (xs : List IndicationIdx) (s : State) :
    (xs.foldl (evaluateIndication t) s).frameQueue = s.frameQueue := by
  induction xs generalizing s with
  | nil => rfl
  | cons i xs ih => rw [List.foldl_cons, ih, evaluateIndication_frameQueue]
theorem foldl_evaluateIndication_engine (t : Time) (xs : List IndicationIdx) (s : State) :
    (xs.foldl (evaluateIndication t) s).engine = s.engine := by
  induction xs generalizing s with
  | nil => rfl
  | cons i xs ih => rw [List.foldl_cons, ih, evaluateIndication_engine]
theorem foldl_evaluateIndication_input (t : Time) (xs : List IndicationIdx) (s : State) :
    (xs.foldl (evaluateIndication t) s).input = s.input := by
  induction xs generalizing s with
  | nil => rfl
  | cons i xs ih => rw [List.foldl_cons, ih, evaluateIndication_input]
theorem foldl_evaluateIndication_relays (t : Time) (xs : List IndicationIdx) (s : State) :
    (xs.foldl (evaluateIndication t) s).relays = s.relays := by
  induction xs generalizing s with
  | nil => rfl
  | cons i xs ih => rw [List.foldl_cons, ih, evaluateIndication_relays]
theorem foldl_evaluateIndication_evaluator (t : Time) (xs : List IndicationIdx) (s : State) :
    (xs.foldl (evaluateIndication t) s).evaluator = s.evaluator := by
  induction xs generalizing s with
  | nil => rfl
  | cons i xs ih => rw [List.foldl_cons, ih, evaluateIndication_evaluator]
theorem foldl_evaluateIndication_reader (t : Time) (xs : List IndicationIdx) (s : State) :
    (xs.foldl (evaluateIndication t) s).reader = s.reader := by
  induction xs generalizing s with
  | nil => rfl
  | cons i xs ih => rw [List.foldl_cons, ih, evaluateIndication_reader]
theorem foldl_evaluateIndication_tables (t : Time) (xs : List IndicationIdx) (s : State) :
    (xs.foldl (evaluateIndication t) s).tables = s.tables := by
  induction xs generalizing s with
  | nil => rfl
  | cons i xs ih => rw [List.foldl_cons, ih, evaluateIndication_tables]
theorem foldl_evaluateIndication_link (t : Time) (xs : List IndicationIdx) (s : State) :
    (xs.foldl (evaluateIndication t) s).link = s.link := by
  induction xs generalizing s with
  | nil => rfl
  | cons i xs ih => rw [List.foldl_cons, ih, evaluateIndication_link]
theorem foldl_evaluateIndication_pending (t : Time) (xs : List IndicationIdx) (s : State) :
    (xs.foldl (evaluateIndication t) s).pending = s.pending := by
  induction xs generalizing s with
  | nil => rfl
  | cons i xs ih => rw [List.foldl_cons, ih, evaluateIndication_pending]
@[simp] theorem indicationPass_time (t : Time) (s : State) : (indicationPass t s).time = s.time := by
  simp [indicationPass, foldl_evaluateIndication_time]
@[simp] theorem indicationPass_lanes (t : Time) (s : State) : (indicationPass t s).lanes = s.lanes := by
  simp [indicationPass, foldl_evaluateIndication_lanes]
@[simp] theorem indicationPass_inbox (t : Time) (s : State) : (indicationPass t s).inbox = s.inbox := by
  simp [indicationPass, foldl_evaluateIndication_inbox]
@[simp] theorem indicationPass_cards (t : Time) (s : State) : (indicationPass t s).cards = s.cards := by
  simp [indicationPass, foldl_evaluateIndication_cards]
@[simp] theorem indicationPass_frameQueue (t : Time) (s : State) : (indicationPass t s).frameQueue = s.frameQueue := by
  simp [indicationPass, foldl_evaluateIndication_frameQueue]
@[simp] theorem indicationPass_engine (t : Time) (s : State) : (indicationPass t s).engine = s.engine := by
  simp [indicationPass, foldl_evaluateIndication_engine]
@[simp] theorem indicationPass_input (t : Time) (s : State) : (indicationPass t s).input = s.input := by
  simp [indicationPass, foldl_evaluateIndication_input]
@[simp] theorem indicationPass_relays (t : Time) (s : State) : (indicationPass t s).relays = s.relays := by
  simp [indicationPass, foldl_evaluateIndication_relays]
@[simp] theorem indicationPass_reader (t : Time) (s : State) : (indicationPass t s).reader = s.reader := by
  simp [indicationPass, foldl_evaluateIndication_reader]
@[simp] theorem indicationPass_tables (t : Time) (s : State) : (indicationPass t s).tables = s.tables := by
  simp [indicationPass, foldl_evaluateIndication_tables]
@[simp] theorem indicationPass_link (t : Time) (s : State) : (indicationPass t s).link = s.link := by
  simp [indicationPass, foldl_evaluateIndication_link]
@[simp] theorem indicationPass_pending (t : Time) (s : State) : (indicationPass t s).pending = s.pending := by
  simp [indicationPass, foldl_evaluateIndication_pending]

theorem foldl_storeRelay_time (x : State → RelayIdx → RelayRuntime) (rs : List RelayIdx) (s : State) :
    (rs.foldl (fun s r => storeRelay r (x s r) s) s).time = s.time := by
  induction rs generalizing s with
  | nil => rfl
  | cons r rs ih => rw [List.foldl_cons, ih, storeRelay_time]
@[simp] theorem applyEvent_time (reason : UnprovenReason) (t : Time) (rs : List RelayIdx) (s : State) :
    (applyEvent reason t rs s).time = s.time := by
  rw [applyEvent, indicationPass_time]; exact foldl_storeRelay_time (fun s r => eventRelay reason t s.relays[r]) rs (beginPass none s)
theorem foldl_storeRelay_lanes (x : State → RelayIdx → RelayRuntime) (rs : List RelayIdx) (s : State) :
    (rs.foldl (fun s r => storeRelay r (x s r) s) s).lanes = s.lanes := by
  induction rs generalizing s with
  | nil => rfl
  | cons r rs ih => rw [List.foldl_cons, ih, storeRelay_lanes]
@[simp] theorem applyEvent_lanes (reason : UnprovenReason) (t : Time) (rs : List RelayIdx) (s : State) :
    (applyEvent reason t rs s).lanes = s.lanes := by
  rw [applyEvent, indicationPass_lanes]; exact foldl_storeRelay_lanes (fun s r => eventRelay reason t s.relays[r]) rs (beginPass none s)
theorem foldl_storeRelay_inbox (x : State → RelayIdx → RelayRuntime) (rs : List RelayIdx) (s : State) :
    (rs.foldl (fun s r => storeRelay r (x s r) s) s).inbox = s.inbox := by
  induction rs generalizing s with
  | nil => rfl
  | cons r rs ih => rw [List.foldl_cons, ih, storeRelay_inbox]
@[simp] theorem applyEvent_inbox (reason : UnprovenReason) (t : Time) (rs : List RelayIdx) (s : State) :
    (applyEvent reason t rs s).inbox = s.inbox := by
  rw [applyEvent, indicationPass_inbox]; exact foldl_storeRelay_inbox (fun s r => eventRelay reason t s.relays[r]) rs (beginPass none s)
theorem foldl_storeRelay_cards (x : State → RelayIdx → RelayRuntime) (rs : List RelayIdx) (s : State) :
    (rs.foldl (fun s r => storeRelay r (x s r) s) s).cards = s.cards := by
  induction rs generalizing s with
  | nil => rfl
  | cons r rs ih => rw [List.foldl_cons, ih, storeRelay_cards]
@[simp] theorem applyEvent_cards (reason : UnprovenReason) (t : Time) (rs : List RelayIdx) (s : State) :
    (applyEvent reason t rs s).cards = s.cards := by
  rw [applyEvent, indicationPass_cards]; exact foldl_storeRelay_cards (fun s r => eventRelay reason t s.relays[r]) rs (beginPass none s)
theorem foldl_storeRelay_frameQueue (x : State → RelayIdx → RelayRuntime) (rs : List RelayIdx) (s : State) :
    (rs.foldl (fun s r => storeRelay r (x s r) s) s).frameQueue = s.frameQueue := by
  induction rs generalizing s with
  | nil => rfl
  | cons r rs ih => rw [List.foldl_cons, ih, storeRelay_frameQueue]
@[simp] theorem applyEvent_frameQueue (reason : UnprovenReason) (t : Time) (rs : List RelayIdx) (s : State) :
    (applyEvent reason t rs s).frameQueue = s.frameQueue := by
  rw [applyEvent, indicationPass_frameQueue]; exact foldl_storeRelay_frameQueue (fun s r => eventRelay reason t s.relays[r]) rs (beginPass none s)
theorem foldl_storeRelay_engine (x : State → RelayIdx → RelayRuntime) (rs : List RelayIdx) (s : State) :
    (rs.foldl (fun s r => storeRelay r (x s r) s) s).engine = s.engine := by
  induction rs generalizing s with
  | nil => rfl
  | cons r rs ih => rw [List.foldl_cons, ih, storeRelay_engine]
@[simp] theorem applyEvent_engine (reason : UnprovenReason) (t : Time) (rs : List RelayIdx) (s : State) :
    (applyEvent reason t rs s).engine = s.engine := by
  rw [applyEvent, indicationPass_engine]; exact foldl_storeRelay_engine (fun s r => eventRelay reason t s.relays[r]) rs (beginPass none s)
theorem foldl_storeRelay_input (x : State → RelayIdx → RelayRuntime) (rs : List RelayIdx) (s : State) :
    (rs.foldl (fun s r => storeRelay r (x s r) s) s).input = s.input := by
  induction rs generalizing s with
  | nil => rfl
  | cons r rs ih => rw [List.foldl_cons, ih, storeRelay_input]
@[simp] theorem applyEvent_input (reason : UnprovenReason) (t : Time) (rs : List RelayIdx) (s : State) :
    (applyEvent reason t rs s).input = s.input := by
  rw [applyEvent, indicationPass_input]; exact foldl_storeRelay_input (fun s r => eventRelay reason t s.relays[r]) rs (beginPass none s)
theorem foldl_storeRelay_reader (x : State → RelayIdx → RelayRuntime) (rs : List RelayIdx) (s : State) :
    (rs.foldl (fun s r => storeRelay r (x s r) s) s).reader = s.reader := by
  induction rs generalizing s with
  | nil => rfl
  | cons r rs ih => rw [List.foldl_cons, ih, storeRelay_reader]
@[simp] theorem applyEvent_reader (reason : UnprovenReason) (t : Time) (rs : List RelayIdx) (s : State) :
    (applyEvent reason t rs s).reader = s.reader := by
  rw [applyEvent, indicationPass_reader]; exact foldl_storeRelay_reader (fun s r => eventRelay reason t s.relays[r]) rs (beginPass none s)
theorem foldl_storeRelay_tables (x : State → RelayIdx → RelayRuntime) (rs : List RelayIdx) (s : State) :
    (rs.foldl (fun s r => storeRelay r (x s r) s) s).tables = s.tables := by
  induction rs generalizing s with
  | nil => rfl
  | cons r rs ih => rw [List.foldl_cons, ih, storeRelay_tables]
@[simp] theorem applyEvent_tables (reason : UnprovenReason) (t : Time) (rs : List RelayIdx) (s : State) :
    (applyEvent reason t rs s).tables = s.tables := by
  rw [applyEvent, indicationPass_tables]; exact foldl_storeRelay_tables (fun s r => eventRelay reason t s.relays[r]) rs (beginPass none s)
theorem foldl_storeRelay_link (x : State → RelayIdx → RelayRuntime) (rs : List RelayIdx) (s : State) :
    (rs.foldl (fun s r => storeRelay r (x s r) s) s).link = s.link := by
  induction rs generalizing s with
  | nil => rfl
  | cons r rs ih => rw [List.foldl_cons, ih, storeRelay_link]
@[simp] theorem applyEvent_link (reason : UnprovenReason) (t : Time) (rs : List RelayIdx) (s : State) :
    (applyEvent reason t rs s).link = s.link := by
  rw [applyEvent, indicationPass_link]; exact foldl_storeRelay_link (fun s r => eventRelay reason t s.relays[r]) rs (beginPass none s)
theorem foldl_storeRelay_pending (x : State → RelayIdx → RelayRuntime) (rs : List RelayIdx) (s : State) :
    (rs.foldl (fun s r => storeRelay r (x s r) s) s).pending = s.pending := by
  induction rs generalizing s with
  | nil => rfl
  | cons r rs ih => rw [List.foldl_cons, ih, storeRelay_pending]
@[simp] theorem applyEvent_pending (reason : UnprovenReason) (t : Time) (rs : List RelayIdx) (s : State) :
    (applyEvent reason t rs s).pending = s.pending := by
  rw [applyEvent, indicationPass_pending]; exact foldl_storeRelay_pending (fun s r => eventRelay reason t s.relays[r]) rs (beginPass none s)

/-! ### What each operation does -/

/-- A relay's record written. -/
@[simp] theorem storeRelay_relays (r : RelayIdx) (x : RelayRuntime) (s : State) :
    (storeRelay r x s).relays = s.relays.set r x := by
  unfold storeRelay; dsimp only; split <;> split <;> simp

/-- A relay's record written: the changed set gains the relay when its status changes. -/
theorem storeRelay_evaluator (r : RelayIdx) (x : RelayRuntime) (s : State) :
    (storeRelay r x s).evaluator =
      if (s.relays[r]).status = x.status then s.evaluator
      else { s.evaluator with changed := s.evaluator.changed ++ [r] } := by
  unfold storeRelay; dsimp only; split <;> split <;> simp

/-- One relay's sample writes that relay's record alone. -/
theorem advanceRelay_relays (n : CardIdx) (t : Time) (s : State) (r : RelayIdx) :
    (advanceRelay n t s r).relays =
      s.relays.set r
        (sampleRelay s.tables.active.relays[r] (s.tables.active.classOf s.tables.active.relays[r])
          (rawDecode s.tables.active.relays[r] s.input.values[n] s.input.known[n]) t s.relays[r]) := by
  simp [advanceRelay]

/-- A pass that begins keeps the records and entries that stand, at place 0. -/
theorem beginPass_evaluator (c : Option CardIdx) (s : State) :
    (beginPass c s).evaluator =
      { s.evaluator with
        pass := some { card := c, relays := s.relays, indications := s.indications, report := s.report
                       conditions := s.conditions, choices := s.choices, time := s.time, place := 0 } } := rfl

/-- A pass that has ended is no longer kept. -/
theorem endPass_evaluator (s : State) : (endPass s).evaluator = { s.evaluator with pass := none } := rfl

/-- After an indication pass the changed set is empty; the waiting events and the pass in flight stand. -/
theorem indicationPass_evaluator (t : Time) (s : State) :
    (indicationPass t s).evaluator = { s.evaluator with changed := [] } := by
  simp [indicationPass, foldl_evaluateIndication_evaluator]

end Sys2Proof.Laws
end

