-- ==== Sys2Proof/Laws/Reader.lean ====
section
/-! SUPPORT. What the building of a frame and the removal of records change, and what a frame or a STATUS READ finds of a pass
in flight (R58, R89, R162). -/

namespace Sys2Proof.Laws

open Sys2Proof.Machine

@[simp] theorem builtAt_time (place : Nat) (s : State) : (builtAt place s).time = s.time := by unfold builtAt; split <;> simp
@[simp] theorem builtAt_lanes (place : Nat) (s : State) : (builtAt place s).lanes = s.lanes := by unfold builtAt; split <;> simp
@[simp] theorem builtAt_inbox (place : Nat) (s : State) : (builtAt place s).inbox = s.inbox := by unfold builtAt; split <;> simp
@[simp] theorem builtAt_cards (place : Nat) (s : State) : (builtAt place s).cards = s.cards := by unfold builtAt; split <;> simp
@[simp] theorem builtAt_frameQueue (place : Nat) (s : State) : (builtAt place s).frameQueue = s.frameQueue := by unfold builtAt; split <;> simp
@[simp] theorem builtAt_engine (place : Nat) (s : State) : (builtAt place s).engine = s.engine := by unfold builtAt; split <;> simp
@[simp] theorem builtAt_input (place : Nat) (s : State) : (builtAt place s).input = s.input := by unfold builtAt; split <;> simp
@[simp] theorem builtAt_relays (place : Nat) (s : State) : (builtAt place s).relays = s.relays := by unfold builtAt; split <;> simp
@[simp] theorem builtAt_indications (place : Nat) (s : State) : (builtAt place s).indications = s.indications := by unfold builtAt; split <;> simp
@[simp] theorem builtAt_report (place : Nat) (s : State) : (builtAt place s).report = s.report := by unfold builtAt; split <;> simp
@[simp] theorem builtAt_reader (place : Nat) (s : State) : (builtAt place s).reader = s.reader := by unfold builtAt; split <;> simp
@[simp] theorem builtAt_tables (place : Nat) (s : State) : (builtAt place s).tables = s.tables := by unfold builtAt; split <;> simp
@[simp] theorem builtAt_link (place : Nat) (s : State) : (builtAt place s).link = s.link := by unfold builtAt; split <;> simp
@[simp] theorem builtAt_conditions (place : Nat) (s : State) : (builtAt place s).conditions = s.conditions := by unfold builtAt; split <;> simp
@[simp] theorem builtAt_pending (place : Nat) (s : State) : (builtAt place s).pending = s.pending := by unfold builtAt; split <;> simp

@[simp] theorem atBuild_time (s : State) : (atBuild s).time = s.time := by simp [atBuild]
@[simp] theorem atBuild_lanes (s : State) : (atBuild s).lanes = s.lanes := by simp [atBuild]
@[simp] theorem atBuild_inbox (s : State) : (atBuild s).inbox = s.inbox := by simp [atBuild]
@[simp] theorem atBuild_cards (s : State) : (atBuild s).cards = s.cards := by simp [atBuild]
@[simp] theorem atBuild_frameQueue (s : State) : (atBuild s).frameQueue = s.frameQueue := by simp [atBuild]
@[simp] theorem atBuild_engine (s : State) : (atBuild s).engine = s.engine := by simp [atBuild]
@[simp] theorem atBuild_input (s : State) : (atBuild s).input = s.input := by simp [atBuild]
@[simp] theorem atBuild_relays (s : State) : (atBuild s).relays = s.relays := by simp [atBuild]
@[simp] theorem atBuild_indications (s : State) : (atBuild s).indications = s.indications := by simp [atBuild]
@[simp] theorem atBuild_report (s : State) : (atBuild s).report = s.report := by simp [atBuild]
@[simp] theorem atBuild_reader (s : State) : (atBuild s).reader = s.reader := by simp [atBuild]
@[simp] theorem atBuild_tables (s : State) : (atBuild s).tables = s.tables := by simp [atBuild]
@[simp] theorem atBuild_link (s : State) : (atBuild s).link = s.link := by simp [atBuild]
@[simp] theorem atBuild_conditions (s : State) : (atBuild s).conditions = s.conditions := by simp [atBuild]
@[simp] theorem atBuild_pending (s : State) : (atBuild s).pending = s.pending := by simp [atBuild]

@[simp] theorem atStatus_time (s : State) : (atStatus s).time = s.time := by unfold atStatus; split <;> simp
@[simp] theorem atStatus_lanes (s : State) : (atStatus s).lanes = s.lanes := by unfold atStatus; split <;> simp
@[simp] theorem atStatus_inbox (s : State) : (atStatus s).inbox = s.inbox := by unfold atStatus; split <;> simp
@[simp] theorem atStatus_cards (s : State) : (atStatus s).cards = s.cards := by unfold atStatus; split <;> simp
@[simp] theorem atStatus_frameQueue (s : State) : (atStatus s).frameQueue = s.frameQueue := by unfold atStatus; split <;> simp
@[simp] theorem atStatus_engine (s : State) : (atStatus s).engine = s.engine := by unfold atStatus; split <;> simp
@[simp] theorem atStatus_input (s : State) : (atStatus s).input = s.input := by unfold atStatus; split <;> simp
@[simp] theorem atStatus_relays (s : State) : (atStatus s).relays = s.relays := by unfold atStatus; split <;> simp
@[simp] theorem atStatus_indications (s : State) : (atStatus s).indications = s.indications := by unfold atStatus; split <;> simp
@[simp] theorem atStatus_report (s : State) : (atStatus s).report = s.report := by unfold atStatus; split <;> simp
@[simp] theorem atStatus_reader (s : State) : (atStatus s).reader = s.reader := by unfold atStatus; split <;> simp
@[simp] theorem atStatus_tables (s : State) : (atStatus s).tables = s.tables := by unfold atStatus; split <;> simp
@[simp] theorem atStatus_link (s : State) : (atStatus s).link = s.link := by unfold atStatus; split <;> simp
@[simp] theorem atStatus_conditions (s : State) : (atStatus s).conditions = s.conditions := by unfold atStatus; split <;> simp
@[simp] theorem atStatus_pending (s : State) : (atStatus s).pending = s.pending := by unfold atStatus; split <;> simp

@[simp] theorem atRemoval_time (rs : List ChangeRecord) (s : State) : (atRemoval rs s).time = s.time := by
  unfold atRemoval; split <;> simp
@[simp] theorem atRemoval_lanes (rs : List ChangeRecord) (s : State) : (atRemoval rs s).lanes = s.lanes := by
  unfold atRemoval; split <;> simp
@[simp] theorem atRemoval_inbox (rs : List ChangeRecord) (s : State) : (atRemoval rs s).inbox = s.inbox := by
  unfold atRemoval; split <;> simp
@[simp] theorem atRemoval_cards (rs : List ChangeRecord) (s : State) : (atRemoval rs s).cards = s.cards := by
  unfold atRemoval; split <;> simp
@[simp] theorem atRemoval_frameQueue (rs : List ChangeRecord) (s : State) : (atRemoval rs s).frameQueue = s.frameQueue := by
  unfold atRemoval; split <;> simp
@[simp] theorem atRemoval_engine (rs : List ChangeRecord) (s : State) : (atRemoval rs s).engine = s.engine := by
  unfold atRemoval; split <;> simp
@[simp] theorem atRemoval_input (rs : List ChangeRecord) (s : State) : (atRemoval rs s).input = s.input := by
  unfold atRemoval; split <;> simp
@[simp] theorem atRemoval_relays (rs : List ChangeRecord) (s : State) : (atRemoval rs s).relays = s.relays := by
  unfold atRemoval; split <;> simp
@[simp] theorem atRemoval_indications (rs : List ChangeRecord) (s : State) : (atRemoval rs s).indications = s.indications := by
  unfold atRemoval; split <;> simp
@[simp] theorem atRemoval_report (rs : List ChangeRecord) (s : State) : (atRemoval rs s).report = s.report := by
  unfold atRemoval; split <;> simp
@[simp] theorem atRemoval_reader (rs : List ChangeRecord) (s : State) : (atRemoval rs s).reader = s.reader := by
  unfold atRemoval; split <;> simp
@[simp] theorem atRemoval_tables (rs : List ChangeRecord) (s : State) : (atRemoval rs s).tables = s.tables := by
  unfold atRemoval; split <;> simp
@[simp] theorem atRemoval_link (rs : List ChangeRecord) (s : State) : (atRemoval rs s).link = s.link := by
  unfold atRemoval; split <;> simp
@[simp] theorem atRemoval_conditions (rs : List ChangeRecord) (s : State) : (atRemoval rs s).conditions = s.conditions := by
  unfold atRemoval; split <;> simp
@[simp] theorem atRemoval_pending (rs : List ChangeRecord) (s : State) : (atRemoval rs s).pending = s.pending := by
  unfold atRemoval; split <;> simp
@[simp] theorem atRemoval_choices (rs : List ChangeRecord) (s : State) : (atRemoval rs s).choices = s.choices := by
  unfold atRemoval; split <;> simp

/-- A pass found at a place keeps its records and entries, and is never found further back. -/
theorem foundAt_of_pass (place : Nat) (s : State) (p : PassInFlight) (h : s.evaluator.pass = some p) :
    foundAt place s = s.setEvaluator { s.evaluator with pass := some { p with place := max p.place place } } := by
  simp [foundAt, h]

/-- With no pass in flight, building a frame or an answer changes nothing. -/
theorem builtAt_of_no_pass (place : Nat) (s : State) (h : s.evaluator.pass = none) : builtAt place s = s := by
  simp [builtAt, h]

/-- With a pass in flight, building a frame or an answer moves the place the pass is found at, never back. -/
theorem builtAt_of_pass (place : Nat) (s : State) (p : PassInFlight) (h : s.evaluator.pass = some p) :
    builtAt place s = (s.setEvaluator { s.evaluator with pass := some { p with place := max p.place place } }).setChoices
      (s.choices + 1) := by
  simp [builtAt, foundAt, h]

/-- With no pass in flight, a removal leaves the evaluators as they are. -/
theorem atRemoval_of_no_pass (rs : List ChangeRecord) (s : State) (h : s.evaluator.pass = none) : atRemoval rs s = s := by
  simp [atRemoval, h]

/-- The largest of some numbers and a start lies below a bound exactly when each of them does. -/
theorem foldl_max_le (ns : List Nat) (a b : Nat) : ns.foldl max a ≤ b ↔ a ≤ b ∧ ∀ n ∈ ns, n ≤ b := by
  induction ns generalizing a with
  | nil => simp
  | cons n ns ih => rw [List.foldl_cons, ih]; simp [and_assoc]

/-- Records that leave move the place the pass is found at to the least place, no less than before, that lies beyond the
change each of them carries. -/
theorem atRemoval_of_pass (rs : List ChangeRecord) (s : State) (p : PassInFlight) (h : s.evaluator.pass = some p) :
    ∃ place, atRemoval rs s = s.setEvaluator { s.evaluator with pass := some { p with place := place } } ∧
      ∀ b, place ≤ b ↔ p.place ≤ b ∧ ∀ x ∈ rs, p.placeOf s x.subject ≤ b := by
  refine ⟨max p.place ((rs.map fun x => p.placeOf s x.subject).foldl max 0), by simp [atRemoval, foundAt, h], fun b => ?_⟩
  simp [foldl_max_le]

/-- With no pass in flight, a frame finds the records as they stand. -/
theorem shownRelay_of_no_pass (s : State) (r : RelayIdx) (h : s.evaluator.pass = none) : s.shownRelay r = s.relays[r] := by
  simp [State.shownRelay, h]

/-- With no pass in flight, a frame finds the image as it stands. -/
theorem shownIndication_of_no_pass (s : State) (i : IndicationIdx) (h : s.evaluator.pass = none) :
    s.shownIndication i = s.indications[i] := by simp [State.shownIndication, h]

/-- A place is no less than that of the rise of RELAY_FAULT exactly when it lies beyond it. -/
theorem riseOfRelayFault_le (p : PassInFlight) (s : State) (b : Nat) :
    p.riseOfRelayFault s ≤ b ↔ p.Beyond s b (.condition cRelayFault) := by
  simp only [PassInFlight.riseOfRelayFault, PassInFlight.Beyond, true_implies]
  split
  next h =>
    refine ⟨fun _ all => ?_, fun _ => Nat.zero_le _⟩
    obtain ⟨x, hx, hf⟩ := List.any_eq_true.1 h
    obtain ⟨k, hk, rfl⟩ := List.getElem_of_mem hx
    have := all ⟨k, by simpa using hk⟩
    simp_all
  next h =>
    have none : ∀ r : RelayIdx, faultClass (p.relays[r]).status = .normal := by
      intro r
      have := h
      simp only [List.any_eq_true, not_exists, not_and, Bool.not_eq_true] at this
      simpa using this p.relays[r] (by simp [Vector.mem_toList_iff])
    simp only [none, implies_true, true_implies]
    split
    next r hr =>
      rw [List.find?_eq_some_iff_append] at hr
      obtain ⟨hf, as, bs, e, before⟩ := hr
      have lower : ∀ r' : RelayIdx, r' < r → faultClass (s.relays[r']).status = .normal := by
        intro r' hlt
        have hm : r' ∈ as := by
          have : r' ∈ List.finRange 768 := List.mem_finRange _
          rw [e, List.mem_append, List.mem_cons] at this
          have sorted := List.pairwise_lt_finRange 768
          rw [e] at sorted
          have later := (List.pairwise_append.1 sorted).2.1
          rcases this with h | h | h
          · exact h
          · exact absurd hlt (by simp [h])
          · exact absurd hlt (Nat.not_lt.2 (Nat.le_of_lt ((List.pairwise_cons.1 later).1 r' h)))
        simpa using before r' hm
      constructor
      · intro le r' hr' low
        by_contra hge
        have : r < r' := by simp only [Fin.lt_def]; omega
        exact absurd (low r this) (by simpa using hf)
      · intro all
        exact all r (by simpa using hf) lower
    next hn =>
      refine ⟨fun _ r hr _ => absurd ?_ hr, fun _ => Nat.zero_le _⟩
      simpa using List.find?_eq_none.1 hn r (List.mem_finRange r)

/-- A place is no less than that of a subject's record exactly when it lies beyond what the pass made of the subject. -/
theorem placeOf_le_iff (p : PassInFlight) (s : State) (b : Nat) (x : Subject) :
    p.placeOf s x ≤ b ↔ p.Beyond s b x := by
  cases x with
  | relay r => simp only [PassInFlight.placeOf, PassInFlight.Beyond]; split <;> simp_all
  | indication i => simp only [PassInFlight.placeOf, PassInFlight.Beyond]; split <;> simp_all
  | condition n =>
    simp only [PassInFlight.placeOf]
    split
    next h => subst h; exact riseOfRelayFault_le p s b
    next h => simp [PassInFlight.Beyond, h]
  | card c => simp [PassInFlight.placeOf, PassInFlight.Beyond]
  | restarted => simp [PassInFlight.placeOf, PassInFlight.Beyond]
  | resync => simp [PassInFlight.placeOf, PassInFlight.Beyond]

/-- Records that leave the Report Queue move a pass in flight on as far as what they carry says. -/
theorem removesAt_atRemoval (s : State) (rs : List ChangeRecord) : s.RemovesAt (atRemoval rs s) rs := by
  unfold State.RemovesAt
  split
  next p h =>
    obtain ⟨place, e, least⟩ := atRemoval_of_pass rs s p h
    exact ⟨place, by rw [e]; rfl, fun b => by simp only [least, placeOf_le_iff]⟩
  next h => rw [atRemoval_of_no_pass rs s h]

/-- A frame or an answer built while a pass may be in flight finds it at one place. -/
theorem builtAt_buildsAt (place : Nat) (s : State) : ∃ at_, s.BuildsAt (builtAt place s) at_ := by
  unfold State.BuildsAt
  cases h : s.evaluator.pass with
  | none => exact ⟨0, by simp [builtAt, h]⟩
  | some p => exact ⟨max p.place place, by rw [builtAt_of_pass place s p h]; exact ⟨Nat.le_max_left _ _, rfl, rfl⟩⟩

/-- A frame built while a pass may be in flight finds every record at one place. -/
theorem atBuild_buildsAt (s : State) :
    ∃ place, s.BuildsAt (atBuild s) place ∧ ∀ r, (atBuild s).shownRelay r = s.relayAt place r := by
  unfold State.BuildsAt
  cases h : s.evaluator.pass with
  | none =>
    exact ⟨0, by simp [atBuild, builtAt, h], fun r => by simp [atBuild, builtAt, State.shownRelay, State.relayAt, h]⟩
  | some p =>
    have e := builtAt_of_pass (Config.passPlace s.choices) s p h
    exact ⟨_, by rw [atBuild, e]; exact ⟨Nat.le_max_left _ _, rfl, rfl⟩,
      fun r => by rw [atBuild, e]; simp [State.shownRelay, State.relayAt, h]⟩

/-- Relays stored one after another: each of them has its new record, and no other changes. -/
theorem foldl_storeRelay_get (f : RelayIdx → RelayRuntime) (rs : List RelayIdx) (s : State) (q : RelayIdx) :
    (rs.foldl (fun x r => storeRelay r (f r) x) s).relays[q] = if q ∈ rs then f q else s.relays[q] := by
  induction rs generalizing s with
  | nil => simp
  | cons r rs ih =>
    rw [List.foldl_cons, ih, storeRelay_relays]
    by_cases h : q ∈ rs
    · rw [if_pos h, if_pos (List.mem_cons_of_mem r h)]
    · by_cases k : q = r
      · subst k
        rw [if_neg h, if_pos List.mem_cons_self]
        simp
      · rw [if_neg h, if_neg (by simp [k, h])]
        have : r.val ≠ q.val := fun e => k (Fin.ext e).symm
        simp [this]

/-- Indications stored one after another change no relay. -/
theorem foldl_storeIndication_relays (report : IndicationIdx → Bool) (code : IndicationIdx → Option Code)
    (t : IndicationIdx → Time) (is : List IndicationIdx) (s : State) :
    (is.foldl (fun x i => storeIndication (report i) i (code i) (t i) x) s).relays = s.relays := by
  induction is generalizing s with
  | nil => rfl
  | cons i is ih => rw [List.foldl_cons, ih, storeIndication_relays]

/-- A pass that has changed no relay and no indication gives what stood before it. -/
theorem replay_of_no_change (s : State) (p : PassInFlight) (place : Nat) (relays : p.relays = s.relays)
    (indications : p.indications = s.indications) :
    s.replay p place = (if passEnd ≤ place then settle (s.beforePass p) else s.beforePass p).setTime s.time := by
  have noRelay : p.relaysDone s place = [] := by simp [PassInFlight.relaysDone, relays]
  have noIndication : p.indicationsDone s place = [] := by simp [PassInFlight.indicationsDone, indications]
  rw [State.replay, noRelay, noIndication]
  rfl

/-- At the moment at which a STATUS READ finds a pass in flight at a place, each relay stands as that place says. -/
theorem momentAt_relays (s : State) (place : Nat) (r : RelayIdx) :
    (s.momentAt place).relays[r] = s.relayAt place r := by
  unfold State.momentAt State.relayAt
  cases h : s.evaluator.pass with
  | none => rfl
  | some p =>
    by_cases done : passEnd ≤ place
    · have lt : r.val < place := Nat.lt_of_lt_of_le (Nat.lt_of_lt_of_le r.isLt (by decide)) done
      show (if passEnd ≤ place then s else s.replay p place).relays[r] = if r.val < place then s.relays[r] else p.relays[r]
      rw [if_pos done, if_pos lt]
    · show (if passEnd ≤ place then s else s.replay p place).relays[r] = if r.val < place then s.relays[r] else p.relays[r]
      rw [if_neg done, State.replay, if_neg done, setTime_relays, foldl_storeIndication_relays, foldl_storeRelay_get]
      show (if r ∈ p.relaysDone s place then s.relays[r] else p.relays[r]) = _
      by_cases lt : r.val < place
      · by_cases same : p.relays[r] = s.relays[r]
        · rw [if_pos lt, same, ite_self]
        · rw [if_pos lt, if_pos]
          exact List.mem_filter.2 ⟨List.mem_finRange r, Bool.and_eq_true_iff.2 ⟨decide_eq_true lt, bne_iff_ne.2 same⟩⟩
      · rw [if_neg lt, if_neg]
        exact fun h => lt (by simpa using (Bool.and_eq_true_iff.1 (List.mem_filter.1 h).2).1)

end Sys2Proof.Laws
end

