-- ==== Sys2Proof/WellFormed.lean ====
section
/-! DEFINITION. Which commands stand for an event that can happen at the part's pins. The types of the operands exclude
the rest: a lane or a card outside 0 to 15 and straps of more than six bits cannot be written. -/

namespace Sys2Proof

/-- Has the line been idle within the frame that has begun? DESK_RX_IDLE_TIMEOUT ended that frame then (R143). -/
def idleWithinFrame (chars : List PortChar) : Bool :=
  match hunt chars with
  | some frame => (frame.drop 2).any PortChar.afterIdle
  | none => false

/-- Does the operand of a desk port command end a frame, good or bad (R143)? -/
def endsDeskFrame (chars : List PortChar) : Bool :=
  match receive chars with
  | .bad => !idleWithinFrame chars
  | .good _ => true
  | _ => false

/-- Can the line fall idle with these characters received and no frame ended (R143)? -/
def idlesBeforeEnd (chars : List PortChar) : Bool :=
  match receive chars with
  | .nothing => true
  | .unfinished => true
  | _ => false

/-- A command is well formed when a lane run holds at least one character, the characters of a received desk
frame end with that frame and hold no idle time within it, and the characters before an idle line hold no whole frame. -/
def Instr.wellFormed : Instr → Bool
  | .powerOn _ => true
  | .laneCarrierRise _ => true
  | .laneCarrierFall _ => true
  | .cardFrameEnd _ run _ => !run.isEmpty
  | .supervisorFrameTaken _ => true
  | .closeExpiry _ => true
  | .cardCarrierFall _ => true
  | .cardCarrierRise _ => true
  | .conversionStart => true
  | .conversionComplete => true
  | .cardOutEvent => true
  | .knownInputsEvent => true
  | .commitSwapBegin => true
  | .commitSwapComplete => true
  | .checkPass => true
  | .checkRefused => true
  | .deferredAnswerPlaced => true
  | .upstreamTxDone => true
  | .refreshExpiry => true
  | .trainFrameBuild => true
  | .abortedFrameBuild => true
  | .upstreamFrameReceived chars => endsDeskFrame chars
  | .deskRxIdleTimeout _ chars => idlesBeforeEnd chars
  | .downstreamFrameReceived chars => endsDeskFrame chars
  | .downstreamTxDone => true
  | .identify => true
  | .setChain => true
  | .restart => true
  | .abort => true
  | .readmit => true
  | .clearProving => true
  | .clearCounters => true
  | .tableWrite => true
  | .tableRead => true
  | .copyActiveToStaging => true
  | .commit => true
  | .snapshot => true
  | .refreshControl => true
  | .timeSet => true
  | .statusRead => true
  | .conditionEnable => true
  | .conditionAck => true
  | .timeBaseMillisecond => true

end Sys2Proof
end

