-- ==== Sys2Proof/Tests/Slice0.lean ====
section
/-! SUPPORT. Small tests of the model against the spec's own figures, and for each statement with hypotheses a witness that
meets them. -/

namespace Sys2Proof.Tests

open Sys2Proof Sys2Proof.Machine Sys2Proof.Laws

-- One test after another: kernel checks that wait on each other side by side cost a thread, and its stack, each.
set_option Elab.async false

/-! ### Small states -/

/-- The state a command answers. -/
def after (i : Instr) (s : State) : State :=
  match exec i s with
  | .next t => t
  | _ => s

/-- The part after power-on as node 5. -/
def lab : State := .powerOn 5

/-- A Card entry with a window from 5 to 25 ms and a proving frame at every fourth sequence number. -/
def labEntry : CardEntry :=
  { enable := true, expectedCode := 7, windowOpen := 5, windowClose := 25, interval := .n4, pattern0 := 0x0F
    pattern1 := 0xF0, mask := 0xFF, mode := .autoclear, clearOnLoss := true }

/-- The Active bank with one Card entry, at card 3. -/
def labBank : Bank := { Bank.empty with cards := Bank.empty.cards.set 3 labEntry }

/-- Card 3 under `labEntry` with the given context and waiting events, the live conditions as the sources stand. -/
def labWith (c : CardContext) (events : List LaneEvent) : State :=
  let s := putCard 3 c ((lab.setTables { lab.tables with active := labBank }).setInbox (lab.inbox.set 3 events))
  s.setConditions { s.conditions with live := Vector.ofFn s.source }

/-- A card in a state, with nothing else in its context. -/
def labCard (state : CardState) : CardContext := { CardContext.powerOn with state := state }

/-- A card in a state whose last accepted frame arrived at the given time. -/
def labServing (state : CardState) (t : Time) : CardContext :=
  { labCard state with window := some { reference := t, openTime := t + 5, closeTime := t + 25 } }

/-- A sample frame of card 3 with sequence number 1. -/
def labFrame : CardFrame :=
  { card := 3, proving := false, cardFault := false, code := 7, sequence := 1, samples := 5 }

/-- A frame that arrived at 100 ms. -/
def arrived (f : CardFrame) : GoodFrame := { frame := f, arrival := 100, shift := 0 }

/-- A request of node 1 with tag 9 that holds a promise. -/
def labRequest (payload : List Byte) : Request :=
  { source := 1, tag := 9, payload := payload, broadcast := false, promised := true }

/-- A state with one request waiting for its owner. -/
def withRequest (q : Request) (s : State) : State := s.setLink { s.link with requests := [q], promises := 1 }

theorem withRequest_serves (payload : List Byte) (s : State) (h : s.swapping = false) :
    (withRequest (labRequest payload) s).Serves (labRequest payload) := ⟨h, rfl, rfl, rfl, rfl⟩

/-- What `CardLaw` asks, as a test. -/
def cardCheck (e : CardEntry) (c : CardContext) : Bool :=
  (decide (c.state = .off) == !e.enable) && (c.errorMap &&& ~~~e.mask) = 0 &&
    (c.window.isNone || c.state = .waiting || c.state = .inService || c.state = .suspect) &&
    (match c.window with
      | some w => w.openTime = w.reference + BitVec.ofNat 32 e.windowOpen &&
          w.closeTime = w.reference + BitVec.ofNat 32 e.windowClose
      | none => true) &&
    c.earlyRun ≤ 3 && c.readmissionRun ≤ 3 && (c.readmissionRun = 0 || c.state = .waiting) && c.cleanRun ≤ 255

theorem cardLaw_of_check {e : CardEntry} {c : CardContext} (h : cardCheck e c = true) : CardLaw e c := by
  simp only [cardCheck, Bool.and_eq_true, Bool.or_eq_true, decide_eq_true_eq, beq_iff_eq] at h
  obtain ⟨⟨⟨⟨⟨⟨⟨h1, h2⟩, h3⟩, h4⟩, h5⟩, h6⟩, h7⟩, h8⟩ := h
  refine ⟨?_, h2, ?_, ?_, h5, h6, ?_, h8⟩
  · cases he : e.enable <;> simp_all
  · intro hw
    cases hc : c.window <;> simp_all
    tauto
  · intro w hw
    simp_all
  · tauto

theorem labWith_conditionsLaw (c : CardContext) (events : List LaneEvent) : (labWith c events).ConditionsLaw := by
  refine ⟨?_, ?_, ?_, rfl⟩
  · intro n
    simp only [labWith, State.setConditions, Fin.getElem_fin, Vector.getElem_ofFn]
    rfl
  · intro n h
    simp [labWith, putCard, lab, State.powerOn, ConditionUnit.powerOn, State.setConditions, State.setInput,
      State.setCards, State.setInbox, State.setTables] at h
  · intro n h
    simp [labWith, putCard, lab, State.powerOn, ConditionUnit.powerOn, State.setConditions, State.setInput,
      State.setCards, State.setInbox, State.setTables] at h

theorem labWith_cardsLaw {c : CardContext} (events : List LaneEvent) (h : cardCheck labEntry c = true) :
    (labWith c events).CardsLaw := by
  refine ⟨fun n => ?_, fun n => ?_⟩
  · by_cases hn : n = 3
    · subst hn; exact cardLaw_of_check h
    · have : (3 : Nat) ≠ n.val := fun e => hn (Fin.ext e.symm)
      apply cardLaw_of_check
      simp [labWith, putCard, lab, State.powerOn, State.setConditions, State.setInput, State.setCards, State.setInbox,
        State.setTables, labBank, Bank.empty, CardEntry.empty, CardContext.powerOn, this, cardCheck]
  · by_cases hn : n = 3
    · subst hn; rfl
    · have : (3 : Nat) ≠ n.val := fun e => hn (Fin.ext e.symm)
      simp [labWith, putCard, lab, State.powerOn, State.setConditions, State.setInput, State.setCards, State.setInbox,
        State.setTables, InputImage.powerOn, CardContext.powerOn, this]

theorem labWith_waits {c : CardContext} (f : GoodFrame) (h : cardCheck labEntry c = true) :
    (labWith c [.frame f]).ConditionsLaw ∧ (labWith c [.frame f]).CardsLaw ∧ (labWith c [.frame f]).FrameWaits 3 f [] :=
  ⟨labWith_conditionsLaw c _, labWith_cardsLaw _ h, ⟨rfl, rfl⟩⟩

/-! ### Words, checks and well-formedness -/

/-- The check value that R166 gives for the CRC-16. -/
theorem test_crc_check_value :
    crc16 [0x31#8, 0x32#8, 0x33#8, 0x34#8, 0x35#8, 0x36#8, 0x37#8, 0x38#8, 0x39#8] = 0x29B1#16 := by decide +kernel

theorem test_no_word_spells_a_command : decodeTableWord 16 0x1234 = none ∧ lab.withFetchWord 16 0x1234 = lab :=
  ⟨rfl, rfl⟩

theorem test_empty_lane_run_is_ill_formed : (Instr.cardFrameEnd 0 [] 0).wellFormed = false := by decide +kernel

theorem test_lane_run_of_one_character_is_well_formed : (Instr.cardFrameEnd 0 [⟨0x7E#8, true⟩] 0).wellFormed = true := by
  decide +kernel

/-- IDENTIFY for node 5 with tag 9, as a desk sends it. -/
def identifyFrame : DeskFrame := { destination := 5, source := 1, kind := 1, tag := 9, payload := [0x01#8] }

theorem test_unfinished_upstream_frame_is_ill_formed :
    (Instr.upstreamFrameReceived ((encodeDeskFrame identifyFrame).take 9)).wellFormed = false ∧
      (Instr.upstreamFrameReceived (encodeDeskFrame identifyFrame)).wellFormed = true := by decide +kernel

theorem test_frame_with_an_idle_time_within_is_ill_formed :
    (Instr.upstreamFrameReceived ((encodeDeskFrame identifyFrame).map fun c =>
      { c with afterIdle := c.byte = 9 })).wellFormed = false := by decide +kernel

theorem test_overrun_downstream_frame_is_ill_formed :
    (Instr.downstreamFrameReceived (encodeDeskFrame identifyFrame ++ [⟨0, true, false⟩])).wellFormed = false := by decide +kernel

theorem test_idle_after_a_whole_frame_is_ill_formed :
    (Instr.deskRxIdleTimeout .upstream (encodeDeskFrame identifyFrame)).wellFormed = false ∧
      (Instr.deskRxIdleTimeout .upstream ((encodeDeskFrame identifyFrame).take 9)).wellFormed = true := by decide +kernel

/-- A desk frame byte by byte from the table of R167. -/
theorem test_desk_frame_bytes :
    identifyFrame.bytes.take 8 = [0xA5#8, 0x5A#8, 0x05#8, 0x01#8, 0x01#8, 0x09#8, 0x01#8, 0x01#8] := by decide +kernel

/-- A card frame's header, code and sequence from the table of R166: card 3, proving, card fault. -/
theorem test_card_frame_bytes :
    cardFrameCovered { labFrame with proving := true, cardFault := true } =
      [0x33#8, 0x07#8, 0x01#8, 0x05#8, 0, 0, 0, 0, 0, 0, 0] := by decide +kernel

/-! ### Relays: the worked sequences of sections 3.8 and 4.8 -/

/-- Relay 40 of section 3.8: PAIRED, Su = 2, Sd = 2, Tl = 5, no flash window. -/
def relay40 : RelayEntry :=
  .paired 0 1 5 { card := 3, settleUp := 2, settleDown := 2, flash := none, flickerClass := 0 }

/-- The class of section 4.8.1. -/
def flickerClass : ClassRecord := { loaded := true, weight := 40, decay := 1, upper := 100, lower := 20 }

/-- A relay that has been steady for a run. -/
def steadyFor (d : Direction) (run : Nat) : RelayRuntime :=
  { RelayRuntime.reset 0 with
    contact := .steady d, priorSteady := some d, runLength := run
    status := match d with
      | .up => .up
      | .down => .down }

/-- A relay after samples of the given raw values, 10 ms apart, the first at `start`. -/
def sampled (e : RelayEntry) (k : ClassRecord) (start : Time) (raws : List Raw) (r : RelayRuntime) : RelayRuntime :=
  (raws.foldl (fun (x : Time × RelayRuntime) raw => (x.1 + 10, sampleRelay e k raw x.1 x.2)) (start, r)).2

/-- Section 3.8.1: the movement that bounces is accepted at 1060 with the time 1050. -/
theorem test_movement_with_a_bounce :
    let r := sampled relay40 flickerClass 1010 [.opened, .opened, .down, .opened, .down, .down] (steadyFor .up 200)
    r.contact = .steady .down ∧ r.status = .down ∧ r.statusTime = 1050 ∧ r.runLength = 0 ∧ r.transitLength = 0 := by
  decide +kernel

/-- Section 3.8.2: a return keeps the run and takes the sample time. -/
theorem test_movement_that_falls_back :
    let r := sampled relay40 flickerClass 2010 [.opened, .opened, .up, .up] (steadyFor .up 50)
    r.contact = .steady .up ∧ r.status = .up ∧ r.statusTime = 2040 ∧ r.runLength = 54 := by decide +kernel

/-- Section 3.8.3: the sixth OPEN sample is a timeout, and two DOWN samples a recovery. -/
theorem test_transit_too_long_and_recovery :
    let r := sampled relay40 flickerClass 3010 (List.replicate 6 .opened) (steadyFor .up 10)
    let q := sampled relay40 flickerClass 3070 [.opened, .down, .down] r
    r.contact = .contradictory .transitTimeout ∧ r.statusTime = 3060 ∧ r.transitLength = 0 ∧
      q.contact = .steady .down ∧ q.statusTime = 3080 ∧ q.runLength = 0 := by decide +kernel

/-- Relay 310 of section 4.8.1. -/
def relay310 : RelayEntry :=
  .frontOnly 0 { card := 3, settleUp := 1, settleDown := 1, flash := none, flickerClass := 0 }

/-- Section 4.8.1: the level passes U at sample 4 and falls to Lo at sample 100. -/
theorem test_relay_that_starts_to_flicker :
    let r := sampled relay310 flickerClass 7010 [.up, .up, .down, .up] (steadyFor .down 100)
    let q := sampled relay310 flickerClass 7050 (List.replicate 96 .up) r
    r.flickerLevel = 116 ∧ r.status = .flickering ∧ r.statusTime = 7040 ∧
      q.flickerLevel = 20 ∧ q.status = .up ∧ q.statusTime = 8000 := by decide +kernel

/-- Relay 120 of section 4.8.2. -/
def relay120 : RelayEntry :=
  .frontOnly 0
    { card := 3, settleUp := 2, settleDown := 2, flash := some { fmin := 20, fmax := 30, fconf := 3 }, flickerClass := 0 }

/-- Section 4.8.2: three changes in the window make the relay FLASHING at sample 76. -/
theorem test_flasher_relay :
    let cadence := List.replicate 25 Raw.up ++ List.replicate 25 .down
    let r := sampled relay120 flickerClass 9000 (cadence ++ cadence.take 27) (steadyFor .down 255)
    r.overlay = .flashing ∧ r.status = .flashing ∧ r.statusTime = 9750 ∧ r.flashCount = 3 ∧ r.flickerLevel = 0 := by
  decide +kernel

/-- Witness for the settle count: an UP relay, two DOWN samples; a relay in transit from UP, two UP or two DOWN samples; an
UP and a CONTRADICTORY relay with both contacts closed. -/
theorem witness_SettleCountMovesTheContactState :
    let r := steadyFor .up 50
    let n := relay40.settleCount (Direction.down).candidate
    1 ≤ n ∧ n ≤ 15 ∧ r.candidate = none ∧ r.candidateLength = 0 ∧ r.contact ≠ .steady .down ∧ r.contact ≠ .transit ∧
      [(10 : Time)].length < n ∧ [(10 : Time), 20].length = n ∧
      (openSample relay40 r).contact = .transit ∧ (openSample relay40 r).priorSteady = some .up ∧
      (openSample relay40 r).candidate = none ∧ (openSample relay40 r).candidateLength = 0 ∧
      relay40.settleCount (Direction.up).candidate = n ∧ relay40.settleCount .both = n ∧
      (r.toContradictory .bothClosed).contact = .contradictory .bothClosed ∧ [(10 : Time)] ≠ [] := by decide +kernel

/-- Witness for one sample: a candidate that begins, one that settles, one that is replaced; a bounce of one sample. -/
theorem witness_OneSampleAndABounce :
    let r := steadyFor .up 50
    let moving := { r with candidate := some .down, candidateLength := 1 }
    r.contact ≠ CandidateValue.down.contact ∧ 1 < relay40.settleCount .down ∧
      moving.contact ≠ CandidateValue.down.contact ∧ relay40.settleCount .down ≤ min 255 (moving.candidateLength + 1) ∧
      moving.contact ≠ CandidateValue.both.contact ∧ moving.candidate ≠ some .both ∧ 1 < relay40.settleCount .both ∧
      r.contact = .steady .up ∧ r.candidate = none ∧ r.candidateLength = 0 ∧ CandidateValue.down ≠ Direction.up.candidate ∧
      [(10 : Time)].length < relay40.settleCount .down ∧ relay40.settleCount .down ≤ 15 := by decide +kernel

/-- R45: UP, then BOTH, then DOWN, then UP again settle nothing under a settle count of 2. -/
theorem test_changing_raw_values_settle_nothing :
    let one (raw : Raw) (t : Time) (r : RelayRuntime) := sampleRelay relay40 flickerClass raw t r
    let both := one .both 20 (one .down 10 (steadyFor .up 50))
    both.candidate = some .both ∧ both.candidateLength = 1 ∧ both.candidateTime = 20 ∧
      (one .up 40 (one .down 30 both)).contact = .steady .up ∧ (one .up 40 (one .down 30 both)).candidate = none := by
  decide +kernel

/-- R48 and R46: two UP samples end relay 40's transit as a return that keeps the run; two samples with both contacts closed
make it CONTRADICTORY. -/
theorem test_return_and_both_closed :
    let back := samplesInARow relay40 flickerClass .up [20, 30] (openSample relay40 (steadyFor .up 50))
    let both := samplesInARow relay40 flickerClass .both [20, 30] (steadyFor .up 50)
    back.contact = .steady .up ∧ back.runLength = 52 ∧ both.contact = .contradictory .bothClosed ∧
      both.statusTime = 20 := by decide +kernel

/-- Witness for the transit timeout: one, five and six samples under Tl = 5. -/
theorem witness_OpenContactsTimeOutAfterTheTransitLimit :
    (steadyFor .up 50).contact = .steady .up ∧ 1 ≤ 5 ∧ 1 ≤ [(10 : Time)].length ∧ [(10 : Time)].length ≤ 5 ∧
      (List.replicate 5 (10 : Time)).length ≤ 5 ∧ (List.replicate 6 (10 : Time)).length = 5 + 1 ∧
      (RelayRuntime.reset 0).contact = .unproven .newEntry ∧ (RelayRuntime.reset 0).transitLength + 5 ≤ 5 ∧
      (RelayRuntime.reset 0).transitLength + (List.replicate 6 (10 : Time)).length = 5 + 1 ∧
      (openSample relay40 (steadyFor .up 50)).contact = .transit ∧
      (openSample relay40 (steadyFor .up 50)).transitLength + 4 ≤ 5 ∧ 1 < relay40.settleCount .both := by decide +kernel

/-- R49: under Tl = 5 an UNPROVEN relay adds up its OPEN samples across an UP sample that does not settle. -/
theorem test_open_samples_add_up_while_unproven :
    let open3 (r : RelayRuntime) := samplesInARow relay40 flickerClass .opened [10, 20, 30] r
    let bounced := sampleRelay relay40 flickerClass .up 40 (open3 (.reset 0))
    bounced.transitLength = 3 ∧ bounced.contact = .unproven .newEntry ∧
      (open3 bounced).contact = .contradictory .transitTimeout := by decide +kernel

/-- Witness for the run and level of a sample: an accepted change outside a window, one at the window's lower end, a
recovery, and a sample that is neither. -/
theorem witness_RunLengthAndFlickerLevelOfASample :
    let accepted := sampleRelay relay310 flickerClass .up 10 (steadyFor .down 100)
    let inside := sampleRelay relay120 flickerClass .up 10
      { steadyFor .down 19 with candidate := some .up, candidateLength := 1 }
    let recovered := sampleRelay relay310 flickerClass .up 10 (.reset 0)
    acceptedBetween (some .down) (.steady .down) accepted.contact ∧ relay310.flashWindow = none ∧
      acceptedBetween (some .down) (.steady .down) inside.contact ∧
      (∃ w, relay120.flashWindow = some w ∧ w.fmin ≤ 20 ∧ 20 ≤ w.fmax) ∧
      recoveryBetween (.unproven .newEntry) recovered.contact ∧
      ¬acceptedBetween none (.unproven .newEntry) recovered.contact ∧
      ¬recoveryBetween (.steady .down) (sampleRelay relay310 flickerClass .down 10 (steadyFor .down 100)).contact := by
  refine ⟨?_, rfl, ?_, ⟨_, rfl, by decide, by decide⟩, trivial, id, id⟩
  · exact (by decide : Direction.down ≠ .up)
  · exact (by decide : Direction.down ≠ .up)

theorem test_unknown_input_ends_a_transit :
    let r := sampleRelay relay40 flickerClass .unknown 20 (openSample relay40 (steadyFor .up 50))
    r.contact = .unproven .inputUnknown ∧ r.transitLength = 0 ∧ r.candidate = none ∧ r.statusTime = 20 := by decide +kernel

/-- Witness for the overlays: a level above U; FLICKERING at Lo and above it; NONE confirmed and not; FLASHING that ends at
an unknown input and one that goes on. -/
theorem witness_OverlayAndFlashCountOfASample :
    let flicker (level : Nat) : RelayRuntime := { steadyFor .up 50 with overlay := .flickering, flickerLevel := level }
    let flash : RelayRuntime := { steadyFor .up 19 with overlay := .flashing, flashCount := 3 }
    flickerClass.lower < flickerClass.upper ∧
      flickerClass.upper < (sampleRelay relay120 flickerClass .up 10 (flicker 102)).flickerLevel ∧
      (sampleRelay relay120 flickerClass .up 10 (flicker 21)).flickerLevel ≤ flickerClass.lower ∧
      flickerClass.lower < (sampleRelay relay120 flickerClass .up 10 (flicker 22)).flickerLevel ∧
      (sampleRelay relay120 flickerClass .up 10
        { steadyFor .down 19 with candidate := some .up, candidateLength := 1, flashCount := 2 }).overlay = .flashing ∧
      (sampleRelay relay120 flickerClass .up 10 (steadyFor .up 50)).overlay = .none ∧
      (sampleRelay relay120 flickerClass .unknown 10 flash).overlay = .none ∧
      (sampleRelay relay120 flickerClass .up 10 flash).overlay = .flashing := by decide +kernel

/-- Witness for the status of a sample: it changes by an accepted change, changes without one, and stays. -/
theorem witness_StatusAndStatusTimeOfASample :
    (sampleRelay relay310 flickerClass .up 10 (steadyFor .down 100)).status ≠ (steadyFor .down 100).status ∧
      (sampleRelay relay40 flickerClass .opened 10 (steadyFor .down 100)).status ≠ (steadyFor .down 100).status ∧
      (sampleRelay relay310 flickerClass .down 10 (steadyFor .down 100)).status = (steadyFor .down 100).status := by
  decide +kernel

/-- Witness for the raw decode: an unknown input, and each pair of known ones. -/
theorem witness_RawDecodeByKind :
    (∃ b ∈ relay40.bits, (1#64).getLsbD b.val = false) ∧ (3#64).getLsbD 0 = true ∧ (3#64).getLsbD 1 = true ∧
      (∀ f b l c, relay310 ≠ .paired f b l c) ∧ (RelayRuntime.reset 0).contact ≠ .transit ∧
      (∀ x, (RelayRuntime.reset 0).contact ≠ .contradictory x) ∧
      relay40.common = some { card := 3, settleUp := 2, settleDown := 2, flash := none, flickerClass := 0 } :=
  ⟨⟨1, by decide, by decide⟩, by decide, by decide, nofun, nofun, nofun, rfl⟩

/-- Witness for the code of an indication: doubt, transit, and neither. -/
theorem witness_CodeOfAnIndication :
    (∃ x ∈ [Status.up, .unproven], x = .unproven ∨ x = .contradictory ∨ x = .flickering) ∧
      (¬∃ x ∈ [Status.up, .transit], x = .unproven ∨ x = .contradictory ∨ x = .flickering) ∧
      Status.transit ∈ [Status.up, .transit] ∧ Status.transit ∉ [Status.up, .flashing] := by decide

/-! ### Lanes -/

/-- A lane whose last accepted sequence number is 250. -/
def laneAt250 : State := lab.setLanes (lab.lanes.set 3 { LaneReceiver.powerOn with carrier := true, lastSequence := some 250 })

theorem test_missing_frames_are_counted_around_the_wrap :
    ((after (.cardFrameEnd 3 (encodeCardFrame { labFrame with sequence := 2 }) 0) laneAt250).lanes[3]).missing = 7 := by
  decide +kernel

theorem test_carrier_fall_forgets_the_sequence :
    ((after (.laneCarrierFall 3) laneAt250).lanes[3]).lastSequence = none ∧
      (after (.laneCarrierFall 3) laneAt250).inbox[3] = [.carrierFall] := by decide +kernel

theorem witness_CarrierChangesReachTheSupervisor :
    (lab.lanes[3]).carrier = false ∧ (laneAt250.lanes[3]).carrier = true := by decide +kernel

/-- The thirteen bytes of `labFrame`'s run with its last CRC byte changed to 0. -/
def changedCrc : List Byte := (((encodeCardFrame labFrame).drop 1).map LineChar.byte).dropLast ++ [0]

/-- The eleven bytes of `labFrame` with a reserved bit set, under a good CRC. -/
def reservedSet : List Byte :=
  let covered := 0x43#8 :: (cardFrameCovered labFrame).tail
  covered ++ be16 (crc16 covered)

/-- Runs that fail at each check: one character short; a changed CRC; a reserved bit set under a good CRC. -/
theorem witness_BadLaneRunIsCountedOnce :
    ((encodeCardFrame labFrame).drop 1).dropLast.length ≠ 13 ∧
      changedCrc.length = 13 ∧ crc16 (changedCrc.take 11) ≠ ofBe16 (byteAt changedCrc 11) (byteAt changedCrc 12) ∧
      reservedSet.length = 13 ∧ crc16 (reservedSet.take 11) = ofBe16 (byteAt reservedSet 11) (byteAt reservedSet 12) ∧
      (byteAt reservedSet 0).getLsbD 6 = true := by decide +kernel

/-- The Base at 100, loaded with 500, and one millisecond later. -/
def setThenTick : TimeBase := ((TimeBase.powerOn.load 100).load 500).tick

/-- R7: a last character that ended before a TIME SET and a millisecond is stamped with the value it ended at. -/
theorem test_stamp_over_two_changes :
    stamp setThenTick 2 labFrame = { frame := labFrame, arrival := 100, shift := 400 } ∧
      stamp setThenTick 1 labFrame = { frame := labFrame, arrival := 500, shift := 0 } ∧
      stamp setThenTick 0 labFrame = { frame := labFrame, arrival := 501, shift := 0 } := by decide +kernel

/-- Witness: a number that repeats, one that follows, and none before; with two changes of the Time Base kept, and none. -/
theorem witness_GoodFrameIsHandedOnAndRepeatIsNot :
    (setThenTick.changes[1]?).map TimeChange.before = some 100 ∧ lab.time.changes = [] ∧
    (laneAt250.lanes[3]).lastSequence = some 250 ∧ (laneAt250.lanes[3]).lastSequence ≠ some labFrame.sequence ∧
      (lab.lanes[3]).lastSequence ≠ some labFrame.sequence := by decide +kernel

/-! ### Card supervision -/

theorem test_early_frame_is_counted_and_discarded :
    let t := after (.supervisorFrameTaken 3) (labWith (labServing .inService 96) [.frame (arrived labFrame)])
    (t.cards[3]).state = .inService ∧ (t.cards[3]).earlyRun = 1 ∧ t.frameQueue = [] := by decide +kernel

theorem test_third_accepted_frame_readmits :
    let c := { labServing .waiting 90 with readmissionRun := 2 }
    let t := after (.supervisorFrameTaken 3) (labWith c [.frame (arrived labFrame)])
    (t.cards[3]).state = .inService ∧ (t.cards[3]).readmissionRun = 0 ∧ t.frameQueue.length = 1 := by decide +kernel

/-- Witness: a FAULTY card; a frame of card 4, and one of code 8; a frame 4 ms after the last with an early run of 1,
and with one of 2. -/
theorem witness_FrameThatDoesNotPass :
    (∃ s : State, s.ConditionsLaw ∧ s.CardsLaw ∧ s.FrameWaits 3 (arrived labFrame) [] ∧
      (s.cards[(3 : CardIdx)]).state = .faulty .code) ∧
    (∃ s : State, s.ConditionsLaw ∧ s.CardsLaw ∧ s.FrameWaits 3 (arrived { labFrame with card := 4 }) [] ∧
      (s.cards[(3 : CardIdx)]).state = .inService) ∧
    (∃ s : State, s.ConditionsLaw ∧ s.CardsLaw ∧ s.FrameWaits 3 (arrived { labFrame with code := 8 }) [] ∧
      (s.cards[(3 : CardIdx)]).state = .waiting ∧ (s.tables.active.cards[(3 : CardIdx)]).expectedCode = 7) ∧
    ∀ run, run = 1 ∨ run = 2 →
      ∃ s : State, s.ConditionsLaw ∧ s.CardsLaw ∧ s.FrameWaits 3 (arrived labFrame) [] ∧
        s.cards[(3 : CardIdx)] = { labServing .inService 96 with earlyRun := run } ∧ (arrived labFrame).since 96 < 5 := by
  refine ⟨⟨labWith (labCard (.faulty .code)) [.frame (arrived labFrame)], ?_⟩,
    ⟨labWith (labServing .inService 90) [.frame (arrived { labFrame with card := 4 })], ?_⟩,
    ⟨labWith (labServing .waiting 90) [.frame (arrived { labFrame with code := 8 })], ?_⟩, ?_⟩
  · obtain ⟨a, b, c⟩ := labWith_waits (c := labCard (.faulty .code)) (arrived labFrame) (by decide)
    exact ⟨a, b, c, rfl⟩
  · obtain ⟨a, b, c⟩ := labWith_waits (c := labServing .inService 90) (arrived { labFrame with card := 4 }) (by decide)
    exact ⟨a, b, c, rfl⟩
  · obtain ⟨a, b, c⟩ := labWith_waits (c := labServing .waiting 90) (arrived { labFrame with code := 8 }) (by decide)
    exact ⟨a, b, c, rfl, rfl⟩
  · intro run hr
    obtain ⟨a, b, c⟩ := labWith_waits (c := { labServing .inService 96 with earlyRun := run }) (arrived labFrame)
      (by rcases hr with h | h <;> subst h <;> decide)
    exact ⟨_, a, b, c, rfl, by decide⟩

/-- A card 3 whose window lets a frame of 100 ms in. -/
theorem labWith_accepts {c : CardContext} {f : CardFrame} (h : cardCheck labEntry c = true) (hf : f.card = 3)
    (hcode : f.code = 7)
    (hs : c.state = .waiting ∨ c.state = .inService ∨ c.state = .suspect ∨ c.state = .late)
    (hw : ∀ w, c.window = some w → w.reference = 95) :
    let s := labWith c [.frame (arrived f)]
    s.ConditionsLaw ∧ s.CardsLaw ∧ s.FrameWaits 3 (arrived f) [] ∧ s.Accepts 3 (arrived f) ∧ s.cards[(3 : CardIdx)] = c := by
  obtain ⟨a, b, d⟩ := labWith_waits (arrived f) h
  refine ⟨a, b, d, ⟨hs, hf, hcode, fun w hc => ?_⟩, rfl⟩
  have : w.reference = 95 := hw w hc
  rw [GoodFrame.since, this]
  exact (by decide : 5 ≤ ((100 + 0 - 95 : Time)).toNat)

/-- Witness: a LATE card; WAITING with a run of 1, and of 2; IN_SERVICE and SUSPECT; the frame at exactly Wo. -/
theorem witness_AcceptedFrameOpensTheWindowAndMovesTheCard :
    ∀ c ∈ [labCard .late, { labServing .waiting 95 with readmissionRun := 1 },
        { labServing .waiting 95 with readmissionRun := 2 }, labServing .inService 95, labServing .suspect 95],
      ∃ s : State, s.ConditionsLaw ∧ s.CardsLaw ∧ s.FrameWaits 3 (arrived labFrame) [] ∧ s.Accepts 3 (arrived labFrame) ∧
        s.cards[(3 : CardIdx)] = c := by
  intro c hc
  refine ⟨_, labWith_accepts (c := c) (f := labFrame) ?_ rfl rfl ?_ ?_⟩
  all_goals
    simp only [List.mem_cons, List.not_mem_nil, or_false] at hc
    rcases hc with rfl | rfl | rfl | rfl | rfl <;> simp [labServing, labCard, CardContext.powerOn] <;> decide

/-- Frames for the proving check: a sample frame where a proving frame is due, a sample frame in its place, a dirty and a
clean proving frame. -/
def provingFrames : List CardFrame :=
  [{ labFrame with sequence := 4 }, labFrame, { labFrame with sequence := 4, proving := true },
    { labFrame with sequence := 4, proving := true, samples := 0xF0 }]

/-- Witness: each of the four kinds of frame, with a clean run of 7. -/
theorem witness_ProvingCheckOfAnAcceptedFrame :
    (∀ f ∈ provingFrames, ∃ s : State, s.ConditionsLaw ∧ s.CardsLaw ∧ s.FrameWaits 3 (arrived f) [] ∧
      s.Accepts 3 (arrived f) ∧ s.cards[(3 : CardIdx)] = { labServing .inService 95 with cleanRun := 7 }) ∧
    expectedAt labEntry 4 ∧ ¬expectedAt labEntry 1 ∧
    ((5 : Inputs) ^^^ patternAt labEntry 4) &&& labEntry.mask ≠ 0 ∧
    ((0xF0 : Inputs) ^^^ patternAt labEntry 4) &&& labEntry.mask = 0 := by
  refine ⟨fun f hf => ?_, by simp [expectedAt, labEntry], by simp [expectedAt, labEntry], by decide, by decide⟩
  simp only [provingFrames, List.mem_cons, List.not_mem_nil, or_false] at hf
  refine ⟨_, labWith_accepts (c := { labServing .inService 95 with cleanRun := 7 }) (f := f) (by decide) ?_ ?_
    (Or.inr (Or.inl rfl)) (fun w hw => by
      simp only [labServing, labCard, Option.some.injEq] at hw
      rw [← hw])⟩
  all_goals rcases hf with rfl | rfl | rfl | rfl <;> rfl

/-- A queue of `n` frames. -/
def labQueue (n : Nat) : List QueueEntry := List.replicate n { lane := 3, card := 3, samples := 5, arrival := 95 }

/-- Witness: a fit frame before a queue of 7 and of 8, and a proving frame. The queue takes no part in the laws. -/
theorem witness_AcceptedSampleFrameIsQueuedOrDropped :
    ∀ q, (q = 7 ∨ q = 8) → ∀ f ∈ provingFrames,
      ∃ s : State, s.ConditionsLaw ∧ s.CardsLaw ∧ s.FrameWaits 3 (arrived f) [] ∧ s.Accepts 3 (arrived f) ∧
        s.frameQueue.length = q := by
  intro q _ f hf
  simp only [provingFrames, List.mem_cons, List.not_mem_nil, or_false] at hf
  obtain ⟨a, b, c, d, _⟩ := labWith_accepts (c := labServing .inService 95) (f := f) (by decide)
    (by rcases hf with rfl | rfl | rfl | rfl <;> rfl) (by rcases hf with rfl | rfl | rfl | rfl <;> rfl)
    (Or.inr (Or.inl rfl)) (fun w hw => by
      simp only [labServing, labCard, Option.some.injEq] at hw
      rw [← hw])
  exact ⟨(labWith (labServing .inService 95) [.frame (arrived f)]).setFrameQueue (labQueue q),
    ⟨a.live, a.enabled, a.held, a.settled⟩, ⟨b.cards, b.known⟩, ⟨c.swap, c.head⟩, ⟨d.state, d.card, d.code, d.window⟩,
    by simp [labQueue, State.setFrameQueue]⟩

/-- Witness: an expiry reached at the very millisecond, a carrier fall and a carrier rise at the head of the events. -/
theorem witness_CloseExpiryAndCarrierChanges :
    (∃ (s : State) (w : CardWindow), s.ConditionsLaw ∧ s.CardsLaw ∧ s.swapping = false ∧
      (s.cards[(3 : CardIdx)]).window = some w ∧ s.time.counter = w.closeTime) ∧
    ∀ e ∈ [LaneEvent.carrierFall, .carrierRise], ∃ s : State, s.ConditionsLaw ∧ s.CardsLaw ∧ s.swapping = false ∧
      s.inbox[(3 : CardIdx)] = [e] := by
  have law : cardCheck labEntry (labServing .inService (-25)) = true := by decide
  refine ⟨⟨labWith (labServing .inService (-25)) [], _, labWith_conditionsLaw _ _, labWith_cardsLaw _ law, rfl, rfl, by decide⟩,
    fun e _ => ⟨labWith (labServing .inService (-25)) [e], labWith_conditionsLaw _ _, labWith_cardsLaw _ law, rfl, rfl⟩⟩

theorem test_close_expiry_makes_the_card_late :
    let t := after (.closeExpiry 3) (labWith (labServing .inService (-25)) [])
    (t.cards[3]).state = .late ∧ t.evaluator.events = [.cardOut 3 0] ∧ t.input.known[3] = 0 := by decide +kernel

theorem witness_LeavingServiceSendsOneCardOut :
    let s := labWith (labServing .inService (-25)) []
    exec (.closeExpiry 3) s = .next (after (.closeExpiry 3) s) ∧ (s.cards[(3 : CardIdx)]).state = .inService ∧
      ((after (.closeExpiry 3) s).cards[(3 : CardIdx)]).state ≠ .inService := ⟨rfl, rfl, by decide +kernel⟩

/-! ### Conversion, card events and indications -/

/-- The bank of a room: card 3, relay 0 on its input 0, and indication 0 on relay 0. -/
def roomBank : Bank :=
  { labBank with
    relays := labBank.relays.set 0 relay310, classes := labBank.classes.set 0 flickerClass
    indications := labBank.indications.set 0
      (some { inputs := [0], pattern := 0, doubt := 15, policy := .hold, report := true })
    patterns := labBank.patterns.set 0 { loaded := true, codes := (Vector.replicate 81 0).set 1 4 } }

/-- Card 3 in the given state with a queued frame. -/
def labRoom (state : CardState) : State :=
  ((labWith (labServing state 95) []).setTables { lab.tables with active := roomBank }).setFrameQueue (labQueue 1)

theorem roomBank_relaysOf : roomBank.relaysOf 3 = [0] := by
  have other (r : Fin 767) : (roomBank.relays[r.succ]).onCard 3 = false := by
    simp [roomBank, labBank, Bank.empty, RelayEntry.onCard, RelayEntry.common]
  have first : (roomBank.relays[(0 : RelayIdx)]).onCard 3 = true := by decide
  rw [Bank.relaysOf, List.finRange_succ, List.filter_cons, if_pos first, List.filter_eq_nil_iff.mpr]
  intro r hr
  obtain ⟨x, _, rfl⟩ := List.mem_map.mp hr
  have := other x
  simp_all

theorem conversionStart_answers (s : State) : exec .conversionStart s = .next (after .conversionStart s) := rfl

/-- The room of an IN_SERVICE card after the conversion of its frame. -/
def roomConverted : State := after .conversionStart (labRoom .inService)

theorem after_conversionStart {s : State} {e : QueueEntry} {rest : List QueueEntry}
    (hf : (s.engineFree && !s.engine.swapWaiting) = true) (hq : s.frameQueue = e :: rest)
    (hc : (s.cards[e.card]).state = .inService) :
    after .conversionStart s = indicationPass e.arrival (relayPass e.card e.arrival (beginPass (some e.card)
      (writeImage e (endPass ((s.setFrameQueue rest).setEngine { s.engine with state := .converting e true }))))) := by
  have pass : s.runsPass e = true := decide_eq_true hc
  simp only [after, exec, execConversionStart, hf, hq, pass, if_true]
  simp only [convert, endPass_cards, setEngine_cards, setFrameQueue_cards, hc]

/-- The conversion samples relay 0, and its UP settles at once. -/
theorem test_conversion_samples_the_relay :
    (roomConverted.relays[(0 : RelayIdx)]).status = .up ∧ (roomConverted.relays[(0 : RelayIdx)]).statusTime = 95 := by
  have pass := after_conversionStart (s := labRoom .inService) (e := { lane := 3, card := 3, samples := 5, arrival := 95 })
    (rest := []) (by decide +kernel) (by decide +kernel) (by decide +kernel)
  generalize hs : beginPass (some 3) (writeImage { lane := 3, card := 3, samples := 5, arrival := 95 } (endPass
    (((labRoom .inService).setFrameQueue []).setEngine _))) = s at pass
  have bank : s.tables.active = roomBank := by rw [← hs]; rfl
  have relays : s.relays = Vector.replicate 768 (.reset 0) := by rw [← hs]; rfl
  have value : s.input.values[(3 : CardIdx)] = 5 := by rw [← hs]; decide +kernel
  have known : s.input.known[(3 : CardIdx)] = -1 := by rw [← hs]; decide +kernel
  have : roomConverted.relays = s.relays.set 0 (sampleRelay relay310 flickerClass .up 95 (.reset 0)) := by
    rw [roomConverted, pass, indicationPass_relays, relayPass, bank, roomBank_relaysOf, List.foldl_cons, List.foldl_nil,
      advanceRelay_relays, bank, relays, value, known]
    rfl
  rw [this]
  exact ⟨by simp; rfl, by simp; rfl⟩

theorem test_stale_frame_is_counted :
    let t := after .conversionStart (labRoom .late)
    ((t.cards[3]).counters).stale = 1 ∧ t.input.values[3] = 0 := by decide +kernel

theorem witness_ConversionOutOfServiceRunsNoPass :
    ∀ state ∈ [CardState.waiting, .late], ∃ s : State, s.CardsLaw ∧ s.engine = { state := .idle, swapWaiting := false } ∧
      s.evaluator.inFlight = false ∧ s.evaluator.events = [.cardOut 4 96] ∧ s.frameQueue = labQueue 1 ∧
      (s.cards[(3 : CardIdx)]).state = state := by
  intro state h
  have law : cardCheck labEntry (labCard state) = true := by
    simp only [List.mem_cons, List.not_mem_nil, or_false] at h
    rcases h with rfl | rfl <;> decide
  have b := labWith_cardsLaw [] law
  exact ⟨((labWith (labCard state) []).setFrameQueue (labQueue 1)).setEvaluator
      { events := [.cardOut 4 96], inFlight := false, changed := [], pass := none },
    ⟨b.cards, b.known⟩, rfl, rfl, rfl, rfl, rfl⟩

theorem witness_ConversionInServiceSamplesTheCardsRelays :
    ∀ events ∈ [[], [CardEvent.cardOut 4 96]],
      let s := (labRoom .inService).setEvaluator { events := events, inFlight := false, changed := [], pass := none }
      s.engine = { state := .idle, swapWaiting := false } ∧ s.evaluator.inFlight = false ∧ s.frameQueue = labQueue 1 ∧
        (s.cards[(3 : CardIdx)]).state = .inService ∧ s.conditions.waiting = [] := by decide +kernel

/-- Witness: indication 0 names relay 0, whose status changes; indication 1 is not defined. -/
theorem witness_IndicationPassFollowsTheStatuses :
    (labRoom .inService).evaluator.changed = [] ∧ (labRoom .inService).conditions.waiting = [] ∧ exec .conversionStart (labRoom .inService) = .next roomConverted ∧
      (labRoom .inService).frameQueue = [{ lane := 3, card := 3, samples := 5, arrival := 95 }] ∧
      (labRoom .inService).tables.active.indications[(0 : IndicationIdx)] =
        some { inputs := [0], pattern := 0, doubt := 15, policy := .hold, report := true } ∧
      (labRoom .inService).tables.active.indications[(1 : IndicationIdx)] = none ∧
      (roomConverted.relays[(0 : RelayIdx)]).status ≠ ((labRoom .inService).relays[(0 : RelayIdx)]).status ∧
      ((labRoom .inService).indications[(0 : IndicationIdx)]).code = none :=
  ⟨by decide +kernel, by decide +kernel, conversionStart_answers _, by decide +kernel, by decide +kernel, by decide +kernel,
    by rw [test_conversion_samples_the_relay.1]; decide +kernel, by decide +kernel⟩

/-- Card 3 with one event waiting at the Relay Evaluator. -/
def withEvent (e : CardEvent) : State :=
  (labRoom .inService).setEvaluator { events := [e], inFlight := false, changed := [], pass := none }

theorem witness_CardEventsUnproveTheirRelays :
    ∀ e ∈ [CardEvent.cardOut 3 77, .knownInputs 3 1 0 77], (withEvent e).swapping = false ∧
      (withEvent e).evaluator.events = [e] ∧ (withEvent e).conditions.waiting = [] ∧
      ((withEvent e).tables.active.relays[(0 : RelayIdx)]).bits = [0] ∧ (1#64).getLsbD 0 = true ∧
      ((withEvent e).tables.active.relays[(0 : RelayIdx)]).common =
        some { card := 3, settleUp := 1, settleDown := 1, flash := none, flickerClass := 0 } :=
  by decide +kernel

/-- A conversion in flight, with a relay pass or without, and a card-out event that waits. -/
def convertingWithEvent (withPass : Bool) : State :=
  (lab.setEngine { state := .converting { lane := 3, card := 3, samples := 5, arrival := 95 } withPass
                   swapWaiting := false }).setEvaluator { events := [.cardOut 4 96], inFlight := false, changed := [], pass := none }

/-- R13 and R14: a conversion with a relay pass waits for the card event, one without does not. -/
theorem test_only_a_pass_waits_for_card_events :
    (after .conversionComplete (convertingWithEvent false)).engine.state = .idle ∧
      (after .conversionComplete (convertingWithEvent true)).engine.state ≠ .idle := by decide +kernel

/-- An idle engine with a swap and a frame waiting, and a card-out event that waits or is in flight. -/
def swapAndEvent (inFlight : Bool) : State :=
  ((labRoom .inService).setEngine { state := .idle, swapWaiting := true }).setEvaluator
    { events := [.cardOut 4 96], inFlight := inFlight, changed := [], pass := none }

/-- R12 and R56: an event sent at rest is in flight at once, and one behind it waits; one in flight holds the engine up, and
one that waits waits across the swap. -/
theorem test_events_in_flight_and_waiting :
    let sent := after (.closeExpiry 3) (labWith (labServing .inService (-25)) [])
    let behind := after (.closeExpiry 3) ((labWith (labServing .inService (-25)) []).setEvaluator (swapAndEvent false).evaluator)
    sent.evaluator.inFlight = true ∧ behind.evaluator.inFlight = false ∧
      behind.evaluator.events = [.cardOut 4 96, .cardOut 3 0] ∧
      (after .commitSwapBegin (swapAndEvent true)).engine.state = .idle ∧
      (after .commitSwapBegin (swapAndEvent false)).engine.state = .swapping 0 ∧
      (after .commitSwapBegin (swapAndEvent false)).evaluator.events = [.cardOut 4 96] := by decide +kernel

/-- R40: a known flag that falls finds a relay pass of its card past its relays, and not a pass of another card. -/
theorem test_flags_change_past_the_relays_of_their_card :
    ∀ n ∈ [(3, 768), (4, 0)],
      let s := labWith (labServing .inService (-25)) []
      let s := (beginPass (some n.1) s).setEngine
        { state := .converting { lane := 3, card := n.1, samples := 5, arrival := 95 } true, swapWaiting := false }
      (after (.closeExpiry 3) s).evaluator.pass.map PassInFlight.place = some n.2 := by decide +kernel

/-- R56: the pass of an earlier card event does not keep a later one from being in flight at once, and has ended then. -/
theorem test_event_behind_a_taken_event_is_in_flight_at_once :
    let t := after (.closeExpiry 3) (beginPass none (labWith (labServing .inService (-25)) []))
    t.evaluator.inFlight = true ∧ t.evaluator.pass = none ∧
      (after .commitSwapBegin (t.setEngine { state := .idle, swapWaiting := true })).engine.state = .idle := by decide +kernel

/-- Witness: a conversion in flight with no card event, and of either kind with one, a waiting swap with an event that waits
and with one in flight, a waiting frame, no frame, and an expiry just reached. -/
theorem witness_StepsThatMoveOneThing :
    (∃ s : State, (∃ q, s.engine.state = .converting q true) ∧ s.evaluator.events = []) ∧
      (∀ pass, ∃ s : State, (∃ q, s.engine.state = .converting q pass) ∧ s.evaluator.events ≠ []) ∧
      (swapAndEvent true).evaluator.inFlight = true ∧
      ((swapAndEvent false).engine = { state := .idle, swapWaiting := true } ∧
        (swapAndEvent false).evaluator.inFlight = false) ∧
      (∃ s : State, s.link.downward = [identifyFrame]) ∧ lab.link.downward = [] ∧
      (∃ s : State, s.reader.nextExpiry = some 100 ∧ (s.time.counter - 100).toNat = 0) :=
  ⟨⟨(convertingWithEvent true).setEvaluator lab.evaluator, ⟨_, rfl⟩, rfl⟩,
    fun pass => ⟨convertingWithEvent pass, ⟨_, rfl⟩, nofun⟩,
    rfl, ⟨rfl, rfl⟩,
    ⟨lab.setLink { lab.link with downward := [identifyFrame] }, rfl⟩, rfl,
    ⟨lab.setTime { lab.time with counter := 100 }, rfl, by decide⟩⟩

theorem test_engine_and_transmitters_move :
    (after .conversionComplete (after .conversionStart (labRoom .waiting))).engine.state = .idle ∧
      (after .commitSwapBegin (lab.setEngine { state := .idle, swapWaiting := true })).engine.state = .swapping 0 ∧
      (after .downstreamTxDone (lab.setLink { lab.link with downward := [identifyFrame] })).link.downstreamTx =
        some identifyFrame ∧
      (after .refreshExpiry (lab.setTime { lab.time with counter := 100 })).reader.nextExpiry = some 200 := by
  decide +kernel

/-! ### The Report Queue -/

/-- A record of relay `r`. -/
def relayRecord (r : RelayIdx) : ChangeRecord :=
  { subject := .relay r, value := .relay .unproven (.unproven .newEntry), firstTime := 1, lastTime := 1, count := 1
    timeValid := false }

/-- A Report Queue with records of the first `n` relays. -/
def withRecords (n : Nat) (resync : Bool) : State :=
  lab.setReport { lab.report with
    records := ((List.finRange 768).take n).map relayRecord, resyncNeeded := resync, high := 192 < n }

/-- An offer for a card. -/
def cardOffer3 : Offer := { subject := .card 3, value := .card .late .ok, time := 50 }

theorem test_193rd_record_makes_report_high :
    let t := offer cardOffer3 (withRecords 192 false)
    t.report.records.length = 193 ∧ t.report.high = true ∧ t.conditions.live[cReportHigh] = true := by decide +kernel

theorem test_full_queue_refuses :
    let t := offer cardOffer3 (withRecords 256 false)
    t.report.records.length = 256 ∧ t.report.refused = 1 ∧ t.report.resyncNeeded = true := by decide +kernel

theorem witness_OfferForAWaitingSubjectIsCoalesced :
    (withRecords 1 false).conditions.waiting = [] ∧
      ∃ r ∈ (withRecords 1 false).report.records, r.subject = .relay 0 :=
  ⟨rfl, relayRecord 0, by decide +kernel, rfl⟩

/-- Witness: an empty place, the append that brings the count to 193, and a full queue. -/
theorem witness_OfferForANewSubjectIsAppendedOrRefused :
    ∀ n, (n = 0 ∨ n = 192 ∨ n = 256) → (withRecords n false).conditions.waiting = [] ∧
      (∀ r ∈ (withRecords n false).report.records, r.subject ≠ cardOffer3.subject) ∧
      (withRecords n false).report.records.length = n := by
  intro n hn
  refine ⟨rfl, ?_, ?_⟩
  · intro r hr
    simp only [withRecords, State.setReport, List.mem_map] at hr
    obtain ⟨x, _, rfl⟩ := hr
    simp [relayRecord, cardOffer3]
  · rcases hn with rfl | rfl | rfl <;> decide +kernel

/-- A MARKER RESYNC that waits. -/
def resyncRecord : ChangeRecord :=
  { subject := .resync, value := .resync, firstTime := 3, lastTime := 3, count := 1, timeValid := false }

/-- The report slot that carries the MARKER RESYNC itself, and one that leaves it waiting when another is due (R104). -/
theorem test_report_slot_with_a_marker_waiting :
    let s := withRecords 20 true
    let front := s.setReport { s.report with records := resyncRecord :: s.report.records }
    let back := s.setReport { s.report with records := s.report.records ++ [resyncRecord] }
    ((after .upstreamTxDone front).report.records.filter fun r => r.subject = .resync).map ChangeRecord.count = [1] ∧
      ((after .upstreamTxDone back).report.records.filter fun r => r.subject = .resync).map ChangeRecord.count = [2] := by
  decide +kernel

/-- Witness: a removal that leaves 64 records under RESYNC_NEEDED, and one that leaves 65. -/
theorem witness_ReportSlotRemovesRecordsAndResynchronises :
    ∀ n, (n = 80 ∨ n = 81) → let s := withRecords n true
      s.link.responses = [] ∧ (s.link.forward = [] ∨ s.link.lastGranted = .forward) ∧ s.reader.urgent = none ∧ s.reader.regular ≠ .overdue ∧
      s.report.records ≠ [] ∧ (∀ r ∈ s.report.records.drop 16, r.subject ≠ .resync) ∧ s.report.resyncNeeded = true ∧
      (s.report.records.drop 16).length = n - 16 := by
  intro n hn
  refine ⟨rfl, .inl rfl, rfl, nofun, by rcases hn with rfl | rfl <;> decide +kernel, ?_, rfl,
    by rcases hn with rfl | rfl <;> decide +kernel⟩
  intro r hr
  have hr := List.mem_of_mem_drop hr
  simp only [withRecords, State.setReport, List.mem_map] at hr
  obtain ⟨x, _, rfl⟩ := hr
  simp [relayRecord]

/-- Every relay at fault before the pass in flight, and none after it; the pass has not been found anywhere yet. -/
def inMidPass (s : State) : State :=
  let before := s.setRelays (Vector.replicate 768 { RelayRuntime.reset 0 with status := .contradictory })
  (beginPass none (before.setLive cRelayFault true)).setRelays s.relays |>.setConditions s.conditions

/-- Witness: the first record to leave is that of a relay whose fault class a pass in flight has changed. -/
theorem witness_ReportSlotInMidPass :
    let s := inMidPass (withRecords 80 true)
    s.link.responses = [] ∧ (s.link.forward = [] ∨ s.link.lastGranted = .forward) ∧ s.reader.urgent = none ∧
      s.reader.regular ≠ .overdue ∧ s.report.records ≠ [] ∧ (s.report.records.head?.map ChangeRecord.subject) = some (.relay 0) ∧
      ∃ p, s.evaluator.pass = some p ∧ faultClass (p.relays[(0 : RelayIdx)]).status ≠
        faultClass (s.relays[(0 : RelayIdx)]).status :=
  ⟨rfl, .inl rfl, rfl, nofun, by decide +kernel, by decide +kernel, _, rfl, by decide +kernel⟩

/-- The frame carries the records of relays 0 to 15, so the pass is found beyond relay 15 from then on, and no further. -/
theorem test_report_frame_moves_the_pass_on :
    (after .upstreamTxDone (inMidPass (withRecords 80 true))).evaluator.pass.map PassInFlight.place = some 16 := by
  decide +kernel

theorem test_report_slot_resynchronises_at_64 :
    let t := after .upstreamTxDone (withRecords 80 true)
    t.report.records.length = 65 ∧ t.report.resyncNeeded = false ∧ t.reader.urgent = some 0 ∧
      t.link.upstreamTx.map (fun f => (f.kind, f.payload.length)) = some (3, 225) := by decide +kernel

/-! ### The arbiter and the Image Reader -/

/-- A RESPONSE that waits. -/
def labResponse : ResponseEntry := { frame := { identifyFrame with kind := 2 }, train := false }

/-- A link with the given waiting frames. -/
def withUpstream (responses : List ResponseEntry) (forward : List DeskFrame) (last : UpstreamSource) : State :=
  lab.setLink { lab.link with responses := responses, forward := forward, lastGranted := last }

/-- Witness: a response waits; both below wait with each granted last; only the own source; nothing at all. -/
theorem witness_ArbiterSendsResponsesFirstAndAlternatesBelow :
    (withUpstream [labResponse] [identifyFrame] .own).link.responses = [labResponse] ∧
      ((withUpstream [] [identifyFrame] .own).link.responses = [] ∧
        (withUpstream [] [identifyFrame] .own).link.forward = [identifyFrame] ∧
        (withUpstream [] [identifyFrame] .own).link.lastGranted = .own) ∧
      ((withUpstream [] [identifyFrame] .forward).ownTurn ≠ none ∧
        (withUpstream [] [identifyFrame] .forward).link.lastGranted = .forward) ∧
      ((withUpstream [] [] .own).ownTurn ≠ none ∧ (withUpstream [] [] .own).link.forward = []) ∧
      (∃ s : State, s.link.responses = [] ∧ s.link.forward = [] ∧ s.ownTurn = none) :=
  ⟨rfl, ⟨rfl, rfl, rfl⟩, ⟨by decide +kernel, rfl⟩, ⟨by decide +kernel, rfl⟩,
    ⟨withRecords 0 false, rfl, rfl, by decide +kernel⟩⟩

theorem test_arbiter_alternates :
    (after .upstreamTxDone (withUpstream [] [identifyFrame] .own)).link.upstreamTx = some identifyFrame ∧
      (after .upstreamTxDone (withUpstream [] [identifyFrame] .forward)).link.forward = [identifyFrame] := by
  decide +kernel

/-- A reader with the given block states and no records waiting. -/
def withBlocks (urgent : Option BlockIdx) (regular : RegularBlock) (walker : BlockIdx) (records : Nat) : State :=
  (withRecords records false).setReader
    { lab.reader with urgent := urgent, regular := regular, walker := walker }

/-- Witness: the urgent sweep at its last block, an OVERDUE block before a record, a DUE block with none. -/
theorem witness_ImageSlotSendsTheBlockAsItStands :
    (∀ s ∈ [withBlocks (some 15) .none 0 1, withBlocks none .overdue 15 1, withBlocks none .due 0 0],
      s.link.responses = [] ∧ s.link.forward = []) ∧
      (withBlocks (some 15) .none 0 1).reader.urgent = some 15 ∧
      ((withBlocks none .overdue 15 1).reader.urgent = none ∧ (withBlocks none .overdue 15 1).reader.walker = 15 ∧
        (withBlocks none .overdue 15 1).reader.regular = .overdue) ∧
      ((withBlocks none .due 0 0).reader.regular = .due ∧ (withBlocks none .due 0 0).report.records = []) := by
  refine ⟨fun s hs => ?_, rfl, ⟨rfl, rfl, rfl⟩, rfl, by decide +kernel⟩
  simp only [List.mem_cons, List.not_mem_nil, or_false] at hs
  rcases hs with rfl | rfl | rfl <;> exact ⟨rfl, rfl⟩

/-- A state whose Forward Buffer holds a frame and was granted last. -/
def forwardGrantedLast (s : State) : State :=
  s.setLink { s.link with forward := [identifyFrame], lastGranted := .forward }

/-- Witness: a forward frame waits at the grant of a REPORT frame and of an IMAGE frame to the own source. -/
theorem witness_OwnSourceWhileAForwardFrameWaits :
    (∀ s ∈ [forwardGrantedLast (withBlocks none .none 0 1), forwardGrantedLast (withBlocks (some 15) .none 0 1),
        forwardGrantedLast (withBlocks none .overdue 15 1)],
      s.link.responses = [] ∧ s.link.forward = [identifyFrame] ∧ s.link.lastGranted = .forward) ∧
    ((forwardGrantedLast (withBlocks none .none 0 1)).reader.urgent = none ∧
      (forwardGrantedLast (withBlocks none .none 0 1)).reader.regular ≠ .overdue ∧
      (forwardGrantedLast (withBlocks none .none 0 1)).report.records ≠ []) ∧
    (forwardGrantedLast (withBlocks (some 15) .none 0 1)).reader.urgent = some 15 ∧
    ((forwardGrantedLast (withBlocks none .overdue 15 1)).reader.urgent = none ∧
      (forwardGrantedLast (withBlocks none .overdue 15 1)).reader.walker = 15 ∧
      (forwardGrantedLast (withBlocks none .overdue 15 1)).reader.regular = .overdue) := by
  refine ⟨fun s hs => ?_, ⟨rfl, nofun, by decide +kernel⟩, rfl, rfl, rfl, rfl⟩
  simp only [List.mem_cons, List.not_mem_nil, or_false] at hs
  rcases hs with rfl | rfl | rfl <;> exact ⟨rfl, rfl, rfl⟩

/-- A pass in flight that has been seen at relay 1: relay 0 shows as it stands, relay 1 and the image as before the pass. -/
theorem test_frame_in_mid_pass_mixes_old_and_new :
    let s := foundAt 1 ((beginPass none (lab.setRelays (Vector.replicate 768 (.reset 7)))).setRelays lab.relays)
    (s.shownRelay 0).statusTime = 0 ∧ (s.shownRelay 1).statusTime = 7 ∧ (s.shownIndication 0).defined = false := by
  decide +kernel

/-- Witness for the bytes of records and items: a card record at FAULTY with reason LANE, and a frame with no pass in flight
and with one. -/
theorem witness_BytesOfRecordsAndItems :
    recordBytes { subject := .card 3, value := .card (.faulty .lane) .fail, firstTime := 258, lastTime := 65536, count := 2
                  timeValid := true } = [3, 0, 3, 0x9E#8, 0, 0, 1, 2, 0, 1, 0, 0, 2, 1] ∧
      lab.evaluator.pass = none ∧
      ∃ p, (foundAt 1 (beginPass none lab)).evaluator.pass = some p ∧ p.place = 1 := ⟨by decide +kernel, rfl, _, rfl, rfl⟩

theorem test_last_urgent_block_ends_the_sweep :
    let t := after .upstreamTxDone (withBlocks (some 15) .none 0 1)
    t.reader.urgent = none ∧ t.report.records.length = 1 ∧
      t.link.upstreamTx.map (fun f => (f.kind, f.tag, f.payload.length)) = some (4, 15, 44) := by decide +kernel

/-- A snapshot of kind RELAY that has sent its first frame. -/
def labTrain : TrainWork := { source := 1, tag := 9, kind := .relay, card := 0, start := 0, count := 100, next := 64 }

/-- Witness: a RUNNING and an ABORTING train with one place free. -/
theorem witness_TrainFramesAreBuiltOneAtATime :
    ∀ tr ∈ [Train.running labTrain, .aborting labTrain],
      let s := (withUpstream (List.replicate 3 labResponse) [] .own).setReader { lab.reader with train := tr }
      s.swapping = false ∧ s.link.responses.length + s.link.promises < 4 ∧
        (∀ e ∈ s.link.responses, e.train = false) ∧ labTrain.InSpan ∧ s.reader.train = tr := by
  intro tr _
  refine ⟨rfl, (by decide : 3 + 0 < 4), ?_, by simp [TrainWork.InSpan, labTrain, ItemKind.size], rfl⟩
  intro e he
  exact List.eq_of_mem_replicate he ▸ rfl

theorem test_last_train_frame_ends_the_train :
    let t := after .trainFrameBuild (lab.setReader { lab.reader with train := .running labTrain })
    t.reader.train = .none ∧ t.link.responses.map (fun e => (e.train, e.frame.tag)) = [(true, 9)] := by decide +kernel

/-- The request payloads that the witnesses serve are those the statements name. -/
theorem witness_RefreshControlSetsTheTimer :
    ∀ p ∈ [[0x31#8, 1, 0, 9], [0x31#8, 0, 7, 209], [0x31#8, 2, 0, 50]],
      (withRequest (labRequest p) lab).Serves (labRequest p) := fun p _ => withRequest_serves p lab rfl

theorem test_refresh_interval_is_clamped :
    (after .refreshControl (withRequest (labRequest [0x31#8, 1, 0, 9]) lab)).reader.interval = 10 ∧
      (after .refreshControl (withRequest (labRequest [0x31#8, 0, 7, 209]) lab)).reader.interval = 2000 := by
  decide +kernel

/-- Witness: a train in flight; a card of 16 where the kind uses it; a start at the collection's end; a span of exactly one
frame, and one item more. -/
theorem witness_SnapshotIsRefusedOrBeginsATrain :
    (∀ p ∈ [[0x30#8, 1, 0, 0, 0, 0, 1], [0x30#8, 3, 16, 0, 0, 0, 1], [0x30#8, 5, 0, 0, 16, 0, 1],
        [0x30#8, 2, 0, 0, 0, 0, 64], [0x30#8, 2, 0, 0, 0, 0, 65]],
      (withRequest (labRequest p) lab).Serves (labRequest p)) ∧ lab.reader.train = .none ∧
      (withRequest (labRequest [0x30#8, 1, 0, 0, 0, 0, 1])
        (lab.setReader { lab.reader with train := .running labTrain })).reader.train ≠ .none :=
  ⟨fun p _ => withRequest_serves p lab rfl, rfl, by decide⟩

theorem test_snapshot_beyond_the_collection_is_answered_range :
    (after .snapshot (withRequest (labRequest [0x30#8, 5, 0, 0, 16, 0, 1]) lab)).link.responses.map
      (fun e => e.frame.payload) = [[0x30#8, 2]] := by decide +kernel

/-! ### The Table Store -/

/-- A state whose one request carries the given payload. -/
def asked (payload : List Byte) : State := withRequest (labRequest payload) lab

theorem asked_serves (payload : List Byte) : (asked payload).Serves (labRequest payload) :=
  withRequest_serves payload lab rfl

/-- The statuses and bodies of the answers that wait. -/
def answersOf (s : State) : List (List Byte) := s.link.responses.map fun e => e.frame.payload

/-- TABLE WRITE of one Class record at class 2: loaded, W = 40, D = 1, U = 100, Lo as given. -/
def writeClass (lower : Byte) : List Byte := [0x20#8, 3, 0, 2, 1, 1, 40, 1, 100, lower]

theorem test_table_write_places_the_record :
    (after .tableWrite (asked (writeClass 20))).tables.staging.classes[2] = flickerClass ∧
      answersOf (after .tableWrite (asked (writeClass 20))) = [[0x20#8, 0]] := by decide +kernel

theorem test_table_write_refuses_a_field :
    answersOf (after .tableWrite (asked (writeClass 255))) = [[0x20#8, 3, 0, 2]] := by decide +kernel

/-- A checker at work on a COMMIT of node 1. -/
def labCommit : CommitWork := { source := 1, tag := 9, answered := true }

/-- Witness: BUSY; a table code of 6; a count of 0; one byte too few; the first span past the end and the last inside it;
a bad record and a good one. -/
theorem witness_TableWriteIsAppliedWholeOrNotAtAll :
    (∀ p ∈ [writeClass 20, [0x20#8, 6, 0, 2, 1], [0x20#8, 3, 0, 2, 0], (writeClass 20).dropLast,
        [0x20#8, 3, 0, 8, 1, 0, 0, 0, 0, 0], [0x20#8, 3, 0, 7, 1, 0, 0, 0, 0, 0], writeClass 255],
      (asked p).Serves (labRequest p)) ∧
    lab.tables.checker = .idle ∧
    (∃ s : State, s.Serves (labRequest (writeClass 20)) ∧ s.tables.checker ≠ .idle) ∧
    tableOfByte 3 = some .cls ∧ tableOfByte 6 = none ∧ TableCode.cls.records = 7 + 1 ∧
    readRecord .cls [1, 40, 1, 100, 255] = none ∧ readRecord .cls [1, 40, 1, 100, 20] ≠ none :=
  ⟨fun p _ => asked_serves p, rfl,
    ⟨withRequest (labRequest (writeClass 20)) (lab.setTables { lab.tables with checker := .checking labCommit 0 }),
      withRequest_serves _ _ rfl, nofun⟩,
    by decide, by decide, rfl, by decide +kernel, by decide +kernel⟩

/-- Witness: a Relay record at the ends of its ranges. -/
theorem witness_TableRecordRoundTrip :
    (TableRecord.relay (.paired 0 63 63
      { card := 15, settleUp := 15, settleDown := 1, flash := some { fmin := 1, fmax := 255, fconf := 7 }
        flickerClass := 7 })).InRange ∧
    readRecord .relay [1, 15, 0, 63, 0xF1, 63, 0x87, 1, 255, 7] =
      some (.relay (.paired 0 63 63
        { card := 15, settleUp := 15, settleDown := 1, flash := some { fmin := 1, fmax := 255, fconf := 7 }
          flickerClass := 7 })) := by
  refine ⟨?_, by decide +kernel⟩
  refine ⟨by decide, by decide, by decide, by decide, by decide, by decide, ?_⟩
  intro w h
  injection h with h
  subst h
  simp [FlashWindow.InRange]

/-- Witness: bytes that differ from the encoding of a Class record not loaded in its absent fields. -/
theorem witness_BytesWithAbsentFieldsFilled :
    (TableRecord.cls .notLoaded).InRange ∧ [0, 9, 9, 9, 9] ≠ (TableRecord.cls .notLoaded).bytes ∧
    ∀ k b, k < TableCode.cls.recordSize → b < 8 → ¬(TableRecord.cls .notLoaded).Spare k b →
      (byteAt [0, 9, 9, 9, 9] k).getLsbD b = (byteAt (TableRecord.cls .notLoaded).bytes k).getLsbD b := by
  refine ⟨rfl, by decide, fun k b _ _ h => ?_⟩
  match k with
  | 0 => rfl
  | k + 1 => exact absurd ⟨rfl, Nat.le_add_left 1 k⟩ h

/-- R127, R168: a Wc of 1001, an N of 5, an Su of 0, a kind of 4 and a loaded byte of 2 read as none. -/
theorem test_fields_outside_their_values_read_as_none :
    readRecord .card ([1, 4, 0, 1, 3, 0xE9] ++ List.replicate 24 0) = none ∧
      readRecord .card ([1, 5, 0, 1, 0, 2] ++ List.replicate 24 0) = none ∧
      readRecord .relay [2, 0, 0, 0, 0x01, 0, 0, 0, 0, 0] = none ∧ readRecord .relay [4, 0, 0, 0, 0x11, 1, 0, 0, 0, 0] = none ∧
      readRecord .cls [2, 1, 0, 1, 0] = none := by decide +kernel

/-- R127, R168: a FRONT_ONLY entry without a flash window, with its back bit, Tl, flash fields and reserved bits filled. -/
theorem test_reserved_bits_and_absent_fields_are_ignored :
    readRecord .relay [2, 15, 63, 0xFF, 0x1F, 0, 0x79, 0, 9, 7] =
      some (.relay (.frontOnly 63 { card := 15, settleUp := 1, settleDown := 15, flash := none, flickerClass := 7 })) := by
  decide +kernel

theorem test_table_read_clamps_the_count :
    answersOf (after .tableRead (asked [0x21#8, 2, 3, 0, 7, 9])) = [[0x21#8, 0, 3, 0, 7, 1, 0, 0, 0, 0, 0]] := by
  decide +kernel

/-- Witness: TABLE READ of bank 0, at the table's end and of the last record; COPY and COMMIT with the checker IDLE, and
with a commit in flight. -/
theorem witness_TableReadCopyAndCommit :
    (∀ p ∈ [[0x21#8, 0, 3, 0, 0, 1], [0x21#8, 1, 3, 0, 8, 1], [0x21#8, 2, 3, 0, 7, 9], [0x22#8], [0x23#8]],
      (asked p).Serves (labRequest p) ∧ (asked p).tables.checker = .idle ∧
        ∃ s : State, s.Serves (labRequest p) ∧ s.tables.checker ≠ .idle) ∧
    tableOfByte 3 = some .cls ∧ TableCode.cls.records = 8 :=
  ⟨fun p _ => ⟨asked_serves p, rfl,
    withRequest (labRequest p) (lab.setTables { lab.tables with checker := .swapWaiting labCommit }),
    withRequest_serves _ _ rfl, nofun⟩, by decide, rfl⟩

theorem test_commit_begins_the_check :
    (after .commit (asked [0x23#8])).tables.checker = .checking labCommit 0 ∧
      (after .commit (asked [0x23#8])).link.promises = 0 ∧ answersOf (after .commit (asked [0x23#8])) = [] := by
  decide +kernel

/-- A Card entry with a lawful window, of a card that is not used. -/
def spareCard : CardEntry := { CardEntry.empty with windowOpen := 5, windowClose := 25 }

/-- A bank that passes the check, but for nothing in it. -/
def spareBank : Bank := { Bank.empty with cards := Vector.replicate 16 spareCard }

/-- A state whose checker examines a bank. -/
def checking (b : Bank) : State :=
  lab.setTables { lab.tables with staging := b, checker := .checking labCommit 0 }

theorem spareBank_window (c : CardIdx) : spareBank.cards[c].windowOpen < spareBank.cards[c].windowClose := by
  simp [spareBank, spareCard]

/-- Witness: a bank of lawful windows with nothing else in it, and the empty bank. -/
theorem witness_CheckPassesExactlyALawfulBank :
    (checking spareBank).tables.checker = .checking labCommit 0 ∧
      (∀ c : CardIdx, (spareBank.cards[c]).windowOpen < (spareBank.cards[c]).windowClose) ∧
      (∀ k : ClassIdx, (spareBank.classes[k]).loaded = false) ∧
      (∀ r : RelayIdx, (spareBank.relays[r]).common = none) ∧
      (∀ i : IndicationIdx, spareBank.indications[i] = none) ∧
      (checking .empty).tables.checker = .checking labCommit 0 ∧
      ¬((Bank.empty.cards[(0 : CardIdx)]).windowOpen < (Bank.empty.cards[(0 : CardIdx)]).windowClose) := by
  refine ⟨rfl, spareBank_window, fun k => ?_, fun r => ?_, fun i => ?_, rfl, by decide +kernel⟩ <;>
    simp [spareBank, Bank.empty, ClassRecord.notLoaded, RelayEntry.common]

/-- A bank of spare cards with relay 0 on card 3, which is not enabled there. -/
def badRelayBank : Bank := { spareBank with relays := spareBank.relays.set 0 relay310 }

/-- Witness: the empty bank fails at its first record; a bank fails at relay 0 by test a, with every record before it good; a
deferred answer with the last place free, and with none. -/
theorem witness_CheckRefusedAtTheFirstFailure :
    (checking .empty).tables.checker = .checking labCommit 0 ∧ Bank.empty.Fails (.card 0) 1 ∧
      (∀ (x : CheckItem) (k : Byte), x.rank < (CheckItem.card 0).rank → ¬Bank.empty.Fails x k) ∧
      (checking badRelayBank).tables.checker = .checking labCommit 0 ∧ badRelayBank.Fails (.relay 0) 3 ∧
      (∀ (x : CheckItem) (k : Byte), x.rank < (CheckItem.relay 0).rank → ¬badRelayBank.Fails x k) ∧
      ∀ n, (n = 3 ∨ n = 4) → ∃ s : State, s.link.deferred = [identifyFrame] ∧
        s.link.responses.length + s.link.promises = n := by
  refine ⟨rfl, ⟨rfl, by decide +kernel⟩, fun x k h => absurd h (Nat.not_lt_zero _), rfl,
    ⟨_, rfl, .inl ⟨rfl, by decide +kernel⟩⟩, fun x k h => ?_, fun n _ => ?_⟩
  · cases x with
    | card c => simp [Bank.Fails, badRelayBank, spareBank, spareCard]
    | cls c => simp [Bank.Fails, badRelayBank, spareBank, Bank.empty, ClassRecord.notLoaded]
    | relay r => simp [CheckItem.rank] at h
    | indication i =>
      simp only [CheckItem.rank] at h
      exact absurd h (by simp; omega)
  · exact ⟨lab.setLink { lab.link with deferred := [identifyFrame], responses := List.replicate n labResponse }, rfl,
      by simp [lab, State.powerOn, DeskLink.powerOn]⟩

theorem test_refusal_names_the_first_test_that_fails :
    badRelayBank.relayError 0 = some .refCard ∧
      ({ badRelayBank with cards := badRelayBank.cards.set 3 { spareCard with enable := true } } : Bank).relayError 0 =
        some .refClass := by decide +kernel

theorem test_check_of_the_empty_bank_is_refused :
    ((after .checkRefused (checking .empty)).link.deferred.map DeskFrame.payload) = [[0x23#8, 6, 1, 0, 0]] := by
  decide +kernel

/-- A swap in progress, taken at the given time, with Staging a bank of spare cards. -/
def swappingAt (t : Time) : State :=
  (lab.setTables { lab.tables with staging := spareBank, checker := .swapWaiting labCommit }).setEngine
    { state := .swapping t, swapWaiting := false }

theorem witness_SwapInstallsStagingAndCarriesCards :
    (swappingAt 60).engine.state = .swapping 60 ∧ (swappingAt 60).tables.checker = .swapWaiting labCommit ∧
      (swappingAt 60).link.requests = [] ∧ (swappingAt 60).conditions.waiting = [] := ⟨rfl, rfl, rfl, rfl⟩

theorem commitSwapComplete_answers (s : State) : exec .commitSwapComplete s = .next (after .commitSwapComplete s) := rfl

/-- A swap in progress between two banks, taken at 60. -/
def swapBetween (old new : Bank) : State :=
  (lab.setTables { lab.tables with active := old, staging := new, checker := .swapWaiting labCommit }).setEngine
    { state := .swapping 60, swapWaiting := false }

/-- Witness: a swap that makes indication 0 and relay 0, one that keeps them, one that changes relay 0's class, and one
that takes them away. -/
theorem witness_SwapCarriesRelaysAndIndications :
    (∀ old ∈ [spareBank, roomBank], ∀ new ∈ [roomBank, { roomBank with classes := Bank.empty.classes }, spareBank],
      (swapBetween old new).engine.state = .swapping 60 ∧ (swapBetween old new).conditions.waiting = [] ∧
        exec .commitSwapComplete (swapBetween old new) = .next (after .commitSwapComplete (swapBetween old new))) ∧
    roomBank.indications[(0 : IndicationIdx)] =
      some { inputs := [0], pattern := 0, doubt := 15, policy := .hold, report := true } ∧
    spareBank.indications[(0 : IndicationIdx)] = none ∧ roomBank.relays[(0 : RelayIdx)] = relay310 ∧
    roomBank.classes[(0 : ClassIdx)] ≠ Bank.empty.classes[(0 : ClassIdx)] :=
  ⟨fun old _ new _ => ⟨rfl, rfl, commitSwapComplete_answers _⟩, by decide +kernel, by decide +kernel, by decide +kernel,
    by decide +kernel⟩

theorem test_swap_begins_a_changed_card_again :
    carriedCard .empty labEntry true (labCard .off) = labCard .waiting ∧
      carriedCard labEntry labEntry true (labServing .inService 95) = labServing .inService 95 := by decide +kernel

/-! ### The desk ports -/

theorem witness_DeskFrameRoundTrip : identifyFrame.payload.length ≤ 240 ∧
    (List.replicate 240 (0xA5 : Byte)).length ≤ 240 ∧
    let noise : List PortChar := [⟨0x5A#8, true, false⟩, ⟨0xA5#8, true, false⟩, ⟨0x5A#8, true, true⟩, ⟨0xA5#8, true, false⟩]
    ∀ k a b, noise[k]? = some a → noise[k + 1]? = some b → a.byte = 0xA5#8 → b.byte = 0x5A#8 → b.afterIdle = true := by
  refine ⟨by decide, by decide +kernel, ?_⟩
  intro noise k a b ha hb
  match k with
  | 0 | 1 | 2 => obtain rfl := Option.some.inj ha; obtain rfl := Option.some.inj hb; decide
  | k + 3 => cases hb

theorem test_false_start_is_discarded :
    receive (⟨0xA5#8, true, false⟩ :: encodeDeskFrame identifyFrame) = .good identifyFrame := by decide +kernel

/-- R143: A5h, an idle line, then 5Ah begins no frame; the next start code does. -/
theorem test_start_code_around_an_idle_line_begins_no_frame :
    receive ([⟨0xA5#8, true, false⟩, ⟨0x5A#8, true, true⟩] ++ encodeDeskFrame identifyFrame) = .good identifyFrame ∧
      receive [⟨0xA5#8, true, false⟩, ⟨0x5A#8, true, true⟩] = .nothing ∧
      receive [⟨0xA5#8, true, false⟩, ⟨0x5A#8, true, false⟩] = .unfinished := by decide +kernel

/-- The part with nodes 6 to 9 below it. -/
def inChain : State := lab.setLink { lab.link with range := some (6, 9) }

/-- The part with an IDENTIFY waiting for its owner, and one more place free. -/
def busyChain : State :=
  inChain.setLink { inChain.link with
    requests := [labRequest [0x01#8]], promises := 1, responses := List.replicate 2 labResponse }

/-- Witness: each line of the routing table, with room and without, for a request that waits and for one that need not. -/
theorem witness_FramesFromTheDeskAreRouted :
    (∀ d : Byte, ({ identifyFrame with destination := d } : DeskFrame).payload.length ≤ 240) ∧
    identifyFrame.kind = 1 ∧ nodeOf identifyFrame.destination = inChain.link.ownNode ∧
    inChain.link.responses.length + inChain.link.promises < 4 ∧
    busyChain.link.responses.length + busyChain.link.promises = 3 ∧
    (∃ s : State, 4 ≤ s.link.responses.length + s.link.promises) ∧
    (∃ q rest, busyChain.link.requests = q :: rest ∧ handing q = .toOwner) ∧
    nodeOf 63 ≠ inChain.link.ownNode ∧ inChain.swapping = false ∧ inChain.link.requests = [] ∧
    byteAt identifyFrame.payload 0 ≠ 0x40#8 ∧ [0x40#8, 1, 2, 3, 4].length = 5 ∧
    (∀ d : Byte, (d = 6 ∨ d = 9) → 6 ≤ nodeOf d ∧ nodeOf d ≤ 9) ∧ ¬(nodeOf 10 ≤ 9) ∧
    inChain.link.range = some (6, 9) :=
  ⟨fun _ => (by decide : identifyFrame.payload.length ≤ 240), rfl, rfl, by decide, rfl,
    ⟨lab.setLink { lab.link with promises := 4 }, by decide⟩, ⟨_, _, rfl, by decide +kernel⟩, by decide, rfl, rfl, by decide,
    rfl, by rintro d (rfl | rfl) <;> decide, by decide, rfl⟩

theorem test_routing_by_range :
    (after (.upstreamFrameReceived (encodeDeskFrame { identifyFrame with destination := 9 })) inChain).link.downward.length = 1 ∧
      (after (.upstreamFrameReceived (encodeDeskFrame { identifyFrame with destination := 10 })) inChain).link.counters.unroutable =
        1 := by decide +kernel

/-- Witness: an unknown code, a payload one byte short, a CARD CONTROL of action 4, and a request for its owner; and a
swap in progress. -/
theorem witness_RequestsAreCheckedThenHandedOn :
    (∀ p ∈ [[0x05#8], [0x10#8, 0], [0x20#8, 3, 0, 2], [0x10#8, 0, 4], [0x10#8, 0, 3], [0x01#8]],
      ∃ code params, p = code :: params ∧ params.length ≤ 239) ∧
    identifyFrame.kind = 1 ∧ nodeOf identifyFrame.destination = lab.link.ownNode ∧ lab.swapping = false ∧
    lab.link.requests = [] ∧ lab.link.responses.length + lab.link.promises < 4 ∧ (swappingAt 60).swapping = true := by
  refine ⟨fun p hp => ?_, rfl, rfl, rfl, rfl, by decide, rfl⟩
  simp only [List.mem_cons, List.not_mem_nil, or_false] at hp
  rcases hp with rfl | rfl | rfl | rfl | rfl | rfl <;> exact ⟨_, _, rfl, by decide⟩

theorem test_request_with_a_parameter_too_many_is_answered_length :
    answersOf (after (.upstreamFrameReceived (encodeDeskFrame { identifyFrame with payload := [0x01#8, 0] })) lab) =
      [[0x01#8, 4]] := by decide +kernel

/-- A request too short, one that a desk broadcasts and that is dropped, and an IDENTIFY. -/
def waitingThree : List Request :=
  [labRequest [], { labRequest [0x01#8] with broadcast := true, promised := false }, labRequest [0x01#8]]

/-- An ABORT with three requests behind it. -/
def abortAndThree : State :=
  lab.setLink { lab.link with requests := labRequest [0x04#8] :: waitingThree, promises := 3 }

/-- Witness: an ABORT that an IDENTIFY waits behind, with two to be turned away between them; the same three across a
swap. -/
theorem witness_RequestsBehindAreHandedOnInOrder :
    (∀ q ∈ waitingThree.take 2, ¬q.forOwner) ∧ (∀ q, [labRequest [0x01#8]].head? = some q → q.forOwner) ∧
      (∃ s : State, s.engine.state = .swapping 60 ∧ s.link.requests = waitingThree.take 2 ++ [labRequest [0x01#8]]) ∧
      abortAndThree.swapping = false ∧
      abortAndThree.link.requests = labRequest [0x04#8] :: (waitingThree.take 2 ++ [labRequest [0x01#8]]) ∧
      ∃ u, exec .abort (abortAndThree.setLink { abortAndThree.link with requests := [labRequest [0x04#8]] }) = .next u ∧
        u.link.requests = [] := by
  refine ⟨fun q h => ?_, fun q h => ?_, ⟨(swappingAt 60).setLink { lab.link with requests := waitingThree }, rfl, rfl⟩, rfl,
    rfl, _, rfl, by decide +kernel⟩
  · simp only [waitingThree, List.take_succ_cons, List.take_zero, List.mem_cons, List.not_mem_nil, or_false] at h
    rcases h with rfl | rfl <;> simp [Request.forOwner, Request.turnedAway, labRequest, byteAt]
  · obtain rfl := Option.some.inj h
    simp [Request.forOwner, Request.turnedAway, labRequest, byteAt, requiredLength]

theorem test_requests_behind_an_abort :
    answersOf (after .abort abortAndThree) = [[0x04#8, 0, 0], [0x00#8, 5]] ∧
      (after .abort abortAndThree).link.requests = [labRequest [0x01#8]] ∧
      (after .abort abortAndThree).link.promises = 1 ∧
      (after .abort abortAndThree).link.counters.broadcastDrops = 1 := by decide +kernel

/-- The five header bytes of a desk frame of length 241. -/
def longHeader : List PortChar := ([5, 1, 1, 0, 241] : List Byte).map fun b => ⟨b, true, false⟩

/-- Witness: the last place of the Forward Buffer and a full one; a frame with a changed CRC, one with a missing stop bit,
one with a length of 241, the two cuts next to the clauses' bounds, and a frame of length 241 that lacks its last byte. -/
theorem witness_FramesFromBelowAndBadFrames :
    (∀ n, (n = 3 ∨ n = 4) → ∃ s : State, s.link.forward.length = n) ∧ identifyFrame.payload.length ≤ 240 ∧
    crc16 identifyFrame.covered + 1 ≠ crc16 identifyFrame.covered ∧
    (((encodeDeskFrame identifyFrame).map fun c => { c with stop := false }).map PortChar.byte = identifyFrame.bytes) ∧
    (((encodeDeskFrame identifyFrame).map fun c => { c with afterIdle := c.byte = 9 }).map PortChar.byte =
      identifyFrame.bytes) ∧ (∀ c ∈ [PortChar.mk 0x01#8 true false], c.byte ≠ 0xA5#8) ∧
    240 < (241#8).toNat ∧ (List.replicate 243 0#8).length = (241#8).toNat + 2 ∧
    (∃ l, (longHeader ++ List.replicate 242 (PortChar.mk 0 true false))[4]? = some l ∧
      (longHeader ++ List.replicate 242 (PortChar.mk 0 true false)).length < 7 + l.byte.toNat) ∧
    2 ≤ 9 ∧ 9 < 9 + identifyFrame.payload.length :=
  ⟨fun n _ => ⟨lab.setLink { lab.link with forward := List.replicate n identifyFrame }, by simp⟩, by decide,
    by decide +kernel, by decide +kernel, by decide +kernel, by decide, by decide, by decide +kernel,
    ⟨⟨241, true, false⟩, rfl, by decide +kernel⟩, by decide, by decide⟩

/-- R143: a frame of length 241 is received to its last CRC byte and is bad then; before that byte it is not yet whole. -/
theorem test_long_frame_is_judged_at_its_end :
    let chars (n : Nat) : List PortChar :=
      [⟨0xA5, true, false⟩, ⟨0x5A, true, false⟩] ++ longHeader ++ List.replicate n ⟨0, true, false⟩
    receive (chars 242) = .unfinished ∧ receive (chars 243) = .bad ∧
      (after (.deskRxIdleTimeout .upstream (chars 242)) lab).link.counters.upstreamCrc = 1 := by decide +kernel

theorem test_bad_frame_is_a_link_error :
    let s := lab.setConditions { lab.conditions with enables := Vector.replicate 11 true }
    (after (.deskRxIdleTimeout .downstream ((encodeDeskFrame identifyFrame).take 9)) s).link.counters.downstreamCrc = 1 ∧
      (after (.deskRxIdleTimeout .downstream ((encodeDeskFrame identifyFrame).take 9)) s).conditions.latched[7] = true ∧
      (after (.downstreamFrameReceived (encodeDeskFrame identifyFrame)) s).link.forward = [identifyFrame] := by
  decide +kernel

/-! ### The desk's requests -/

theorem test_identify_answer :
    answersOf (after .identify (asked [0x01#8])) = [[0x01#8, 0, 17, 4, 0, 1, 5, 0xFF#8, 0xFF#8, 0, 0, 0]] := by
  decide +kernel

theorem test_status_after_power_on :
    (answersOf (after .statusRead (asked [0x41#8]))).map (List.take 8) = [[0x41#8, 0, 0, 1, 0, 0, 0, 0]] := by
  decide +kernel

theorem inMidPass_serves {s : State} {q : Request} (h : s.Serves q) : (inMidPass s).Serves q :=
  ⟨h.swap, h.alone, h.direct, h.promised, h.counted⟩

/-- Relay 5 falls to a fault in a pass that begins with none at fault, where RELAY_FAULT is enabled or not: after the pass
RELAY_FAULT is live and, if enabled, latched, and the records of the pass wait. -/
def relay5Falls (enabled : Bool) (s : State) : State :=
  let before := s.setConditions { s.conditions with enables := s.conditions.enables.set cRelayFault enabled }
  let faulty : RelayRuntime := { RelayRuntime.reset 9 with status := .contradictory }
  ((((beginPass none before).setRelays (s.relays.set 5 faulty)).setLive cRelayFault true).setLatched cRelayFault enabled).setReport
    { s.report with records := s.report.records ++ [relayRecord 5] }

/-- What STATUS READ answers of RELAY_FAULT, of the relays at fault and of the Report Queue at a place of the pass. -/
def shownAt (place : Nat) (s : State) : Bool × Bool × Nat × Nat :=
  let m := s.momentAt place
  (m.conditions.live[cRelayFault], m.conditions.latched[cRelayFault], m.relaysAtFault, m.report.records.length)

/-- A pass that changes nothing, after which a record has left the Report Queue. -/
def overtaken (s : State) : State := (beginPass none s).setReport { s.report with records := [] }

theorem overtaken_not_as_left :
    (overtaken (asked [0x41#8])).evaluator.pass.map (overtaken (asked [0x41#8])).asPassLeft = some false := by
  show some (State.asPassLeft _ _) = _
  unfold State.asPassLeft
  rw [replay_of_no_change _ _ _ rfl rfl]
  decide +kernel

theorem no_relay_of_lab_at_fault :
    ((List.finRange 768).any fun r => faultClass (lab.relays[r]).status != .normal) = false := by
  have reset : lab.relays = Vector.replicate 768 (.reset 0) := rfl
  refine List.any_eq_false.2 fun r _ => ?_
  simp only [reset, Fin.getElem_fin, Vector.getElem_replicate]
  decide

/-- Witness: with no pass in flight, with one that a command has overtaken, and with one that began with every relay at
fault or with none. -/
theorem witness_IdentifyAndStatusRead :
    (∀ p ∈ [[0x01#8], [0x41#8]], (asked p).Serves (labRequest p)) ∧
      (inMidPass (asked [0x41#8])).Serves (labRequest [0x41#8]) ∧ (asked [0x41#8]).evaluator.pass = none ∧
      (relay5Falls true (asked [0x41#8])).Serves (labRequest [0x41#8]) ∧
      (∃ p, (inMidPass (asked [0x41#8])).evaluator.pass = some p ∧
        p.conditions.live[cRelayFault] = (List.finRange 768).any fun r => faultClass (p.relays[r]).status != .normal) ∧
      ((overtaken (asked [0x41#8])).Serves (labRequest [0x41#8]) ∧
        (overtaken (asked [0x41#8])).evaluator.pass.map (overtaken (asked [0x41#8])).asPassLeft = some false) ∧
      ∃ p, (relay5Falls true (asked [0x41#8])).evaluator.pass = some p ∧
        p.conditions.live[cRelayFault] = ((List.finRange 768).any fun r => faultClass (p.relays[r]).status != .normal) ∧
        p.conditions.live[cRelayFault] = false ∧ p.conditions.latched[cRelayFault] = false ∧
        p.conditions.enables[cRelayFault] = true :=
  have h := asked_serves [0x41#8]
  ⟨fun p _ => asked_serves p, inMidPass_serves h, rfl, ⟨h.swap, h.alone, h.direct, h.promised, h.counted⟩,
    ⟨_, rfl, by decide +kernel⟩, ⟨⟨h.swap, h.alone, h.direct, h.promised, h.counted⟩, overtaken_not_as_left⟩,
    _, rfl, no_relay_of_lab_at_fault.symm, rfl, rfl, rfl⟩

/-- R162: a STATUS READ that finds a pass before the relay that falls shows nothing of the fall, latch and records included;
one that finds it complete shows all of it. -/
theorem test_status_in_mid_pass_is_of_one_moment :
    shownAt 5 (relay5Falls true lab) = (false, false, 0, 1) ∧
      shownAt passEnd (relay5Falls true lab) = (true, true, 1, 2) := by decide +kernel

/-- R54 and R162: beyond the relay, and before the end of the pass, its record waits and RELAY_FAULT is live; and relays at
fault that the pass has still to reach count. -/
theorem test_status_counts_old_and_new_faults :
    shownAt 6 (relay5Falls false lab) = (true, false, 1, 2) ∧
      shownAt 3 (inMidPass lab) = (true, false, 765, 4) := by
  decide +kernel

/-- Witness: none; the pairs next to the own node and at node 62; a pair below the own node. -/
theorem witness_SetChainSetsTheRange :
    (∀ p ∈ [[0x02#8, 0xFF#8, 0xFF#8], [0x02#8, 6, 62], [0x02#8, 5, 62], [0x02#8, 6, 63]],
      (asked p).Serves (labRequest p)) ∧ (asked [0x02#8, 6, 62]).link.ownNode.val = 5 :=
  ⟨fun p _ => asked_serves p, rfl⟩

theorem test_set_chain :
    (after .setChain (asked [0x02#8, 6, 62])).link.range = some (6, 62) ∧
      answersOf (after .setChain (asked [0x02#8, 5, 62])) = [[0x02#8, 3]] := by decide +kernel

/-- Witness: nothing in flight; a RUNNING train with a check in flight. -/
theorem witness_AbortStopsTheTrainAndTheCheck :
    (asked [0x04#8]).Serves (labRequest [0x04#8]) ∧
      ∃ s : State, s.Serves (labRequest [0x04#8]) ∧ s.reader.train = .running labTrain ∧
        s.tables.checker = .checking labCommit 0 :=
  ⟨asked_serves _, withRequest (labRequest [0x04#8])
    ((checking .empty).setReader { lab.reader with train := .running labTrain }), withRequest_serves _ _ rfl, rfl, rfl⟩

theorem test_abort_flags :
    answersOf (after .abort (asked [0x04#8])) = [[0x04#8, 0, 0]] ∧
      answersOf (after .abort (withRequest (labRequest [0x04#8])
        ((checking .empty).setReader { lab.reader with train := .running labTrain }))) = [[0x04#8, 0, 3]] := by
  decide +kernel

theorem witness_RestartResetsEveryBlock :
    (asked [0x03#8]).conditions.waiting = [] ∧ (asked [0x03#8]).Serves (labRequest [0x03#8]) ∧
      (asked [0x03#8]).time.valid = false := ⟨rfl, asked_serves _, rfl⟩

theorem test_restart_answers_and_sweeps :
    answersOf (after .restart (asked [0x03#8])) = [[0x03#8, 0]] ∧
      (after .restart (asked [0x03#8])).reader.urgent = some 0 := by decide +kernel

/-- Witness: a FAULTY card 3 for each action, and a card number of 16. -/
theorem witness_CardControlActsOnOneCard :
    ∀ a ∈ [1#8, 2#8, 3#8], ∀ n ∈ [3#8, 16#8], ∃ s : State, s.ConditionsLaw ∧ s.Serves (labRequest [0x10#8, n, a]) ∧
      (s.cards[(3 : CardIdx)]).state = .faulty .lane := by
  intro a _ n _
  have law := labWith_conditionsLaw (labCard (.faulty .lane)) []
  exact ⟨withRequest (labRequest [0x10#8, n, a]) (labWith (labCard (.faulty .lane)) []),
    ⟨law.live, law.enabled, law.held, law.settled⟩, withRequest_serves _ _ rfl, rfl⟩

theorem test_readmit_without_a_carrier_makes_the_card_absent :
    ((after .readmit (withRequest (labRequest [0x10#8, 3, 1]) (labWith (labCard (.faulty .lane)) []))).cards[3]).state =
      .absent := by decide +kernel

/-- A broadcast TIME SET waiting for the Time Base. -/
def broadcastTime : State :=
  lab.setLink { lab.link with requests := [{ labRequest [0x40#8, 0, 0, 1, 0] with broadcast := true, promised := false }] }

/-- Witness: a TIME SET for the own node and a broadcast one. -/
theorem witness_TimeSetAndMillisecond :
    (asked [0x40#8, 0, 0, 1, 0]).conditions.waiting = [] ∧ (asked [0x40#8, 0, 0, 1, 0]).swapping = false ∧
      (asked [0x40#8, 0, 0, 1, 0]).link.promises = 1 ∧ broadcastTime.conditions.waiting = [] ∧
      broadcastTime.swapping = false ∧ ∃ q, broadcastTime.link.requests = [q] ∧ q.broadcast = true ∧ q.promised = false :=
  ⟨rfl, rfl, rfl, rfl, rfl, _, rfl, rfl, rfl⟩

theorem test_time_set_moves_the_refresh_timer :
    (after .timeSet broadcastTime).time.counter = 256 ∧ (after .timeSet broadcastTime).reader.nextExpiry = some 356 ∧
      (after .timeSet broadcastTime).link.responses = [] := by decide +kernel

theorem test_millisecond_wraps :
    (after .timeBaseMillisecond (lab.setTime { lab.time with counter := -1 })).time.counter = 0 := by decide +kernel

theorem lab_conditionsLaw : lab.ConditionsLaw := by
  refine ⟨by decide +kernel, ?_, ?_, rfl⟩ <;> intro n h <;>
    simp [lab, State.powerOn, ConditionUnit.powerOn] at h

/-- Witness: a set of conditions 0 to 10, and one that names condition 11. -/
theorem witness_ConditionEnableAndAck :
    ∀ p ∈ [[0x42#8, 0xFF#8, 7], [0x42#8, 0, 8], [0x43#8, 0xFF#8, 7], [0x43#8, 0, 8]],
      (asked p).ConditionsLaw ∧ (asked p).Serves (labRequest p) ∧ (asked p).report.records.length ≤ 181 :=
  fun p _ => ⟨⟨lab_conditionsLaw.live, lab_conditionsLaw.enabled, lab_conditionsLaw.held, rfl⟩, asked_serves p,
    (by decide : 1 ≤ 181)⟩

theorem test_ack_finds_a_pass_complete :
    (after .conditionAck (inMidPass (asked [0x43#8, 4, 0]))).evaluator.pass.map PassInFlight.place = some 1280 ∧
      (after .conditionAck (inMidPass (asked [0x43#8, 0, 8]))).evaluator.pass.map PassInFlight.place = some 0 := by
  decide +kernel

/-- Power-on with 0, 2, 8 and 9 enabled and TIME_INVALID just latched. -/
def timeInvalidLatched : State :=
  let s := lab.setConditions { lab.conditions with enables := readConditionSet 0x05 0x03 }
  rise 8 s

/-- Section 10.6: after power-on an enable of 0, 2, 8 and 9 latches TIME_INVALID, whenever the queue takes its record. -/
theorem test_enable_latches_time_invalid :
    let t := replaceEnables (readConditionSet 0x05 0x03) lab
    t.conditions.latched.toList = [false, false, false, false, false, false, false, false, true, false, false] ∧
      t.report.records.map ChangeRecord.subject = [.restarted, .condition 8] := by
  have fold : replaceEnables (readConditionSet 0x05 0x03) lab =
      settle ([9, 10].foldl (enableCondition lab.conditions.enables) (takeFreely timeInvalidLatched)) := by rfl
  rw [fold]
  rcases takeFreely_of_last_waiting timeInvalidLatched (by decide +kernel) (by decide +kernel) with h | h <;> rw [h] <;>
    decide +kernel

/-! ### The laws hold somewhere -/

/-- A part that meets every law, with a command in front. -/
def labStep : State := lab.setPending [.upstreamTxDone]

theorem lab_frameQueueLaw : lab.FrameQueueLaw := ⟨by decide, nofun⟩

theorem lab_linkLaw : lab.LinkLaw :=
  ⟨by decide, by decide, by decide, by decide, nofun, by decide, nofun, nofun⟩

theorem lab_readerLaw : lab.ReaderLaw := ⟨by decide, rfl, nofun, nofun, nofun⟩

theorem lab_reportLaw : lab.ReportLaw := ⟨by decide, by decide, by decide, by decide, by decide⟩

theorem lab_cardsLaw : lab.CardsLaw := by
  refine ⟨fun n => ?_, fun n => ?_⟩
  · apply cardLaw_of_check
    simp [lab, State.powerOn, TableStore.powerOn, Bank.empty, CardEntry.empty, CardContext.powerOn, cardCheck]
  · simp [lab, State.powerOn, InputImage.powerOn, CardContext.powerOn]

theorem lab_tablesLaw : lab.TablesLaw := by
  refine ⟨.inl rfl, fun c => .inr ?_, ⟨fun r => ?_, fun k => ?_, fun i e h => ?_, fun p => .inr ?_⟩, nofun, nofun, nofun, nofun⟩
  · simp [lab, State.powerOn, TableStore.powerOn, Bank.empty]
  · simp [lab, State.powerOn, TableStore.powerOn, Bank.empty, RelayEntry.InRange]
  · simp [lab, State.powerOn, TableStore.powerOn, Bank.empty, ClassRecord.InRange, ClassRecord.notLoaded]
  · simp [lab, State.powerOn, TableStore.powerOn, Bank.empty] at h
  · simp [lab, State.powerOn, TableStore.powerOn, Bank.empty]

theorem lab_relay (r : RelayIdx) : lab.relays[r] = .reset 0 ∧ lab.tables.active.relays[r] = .none := by
  simp [lab, State.powerOn, TableStore.powerOn, Bank.empty]

theorem lab_relaysLaw : lab.RelaysLaw := by
  intro r
  rw [(lab_relay r).1, (lab_relay r).2]
  exact ⟨by decide, fun _ => rfl, by decide, by decide, by decide, by decide, rfl, nofun, nofun, nofun, nofun, nofun,
    fun _ => rfl, fun _ => ⟨nofun, nofun⟩⟩

theorem lab_knownLaw : lab.KnownLaw := by
  intro r c h
  rw [(lab_relay r).2] at h
  exact nomatch h

theorem lab_outOfServiceLaw : lab.OutOfServiceLaw := by
  intro r c h
  rw [(lab_relay r).2] at h
  exact nomatch h

theorem lab_indicationsLaw : lab.IndicationsLaw := by
  refine ⟨fun i => ?_, fun i => ?_, fun i e h => ?_, rfl⟩ <;>
    simp_all [lab, State.powerOn, TableStore.powerOn, Bank.empty, ImageEntry.powerOn]

theorem step_upstreamTxDone : step labStep = .next (after .upstreamTxDone lab) := rfl

/-- Witness for the laws that every step keeps: the part after power-on as node 5, with an UPSTREAM_TX_DONE in front. -/
theorem witness_EveryStepKeepsTheLaws :
    step labStep = .next (after .upstreamTxDone lab) ∧ labStep.FrameQueueLaw ∧ labStep.LinkLaw ∧ labStep.ReaderLaw ∧
      labStep.ReportLaw ∧ labStep.ConditionsLaw ∧ labStep.CardsLaw ∧ labStep.TablesLaw ∧ labStep.RelaysLaw ∧
      labStep.KnownLaw ∧ labStep.OutOfServiceLaw ∧ labStep.IndicationsLaw ∧ labStep.EvaluatorLaw :=
  ⟨step_upstreamTxDone, ⟨lab_frameQueueLaw.bound, lab_frameQueueLaw.ownCard⟩,
    ⟨lab_linkLaw.downward, lab_linkLaw.forward, lab_linkLaw.responses, lab_linkLaw.promises, lab_linkLaw.broadcasts,
      lab_linkLaw.ownNode, lab_linkLaw.range, lab_linkLaw.routed⟩,
    ⟨lab_readerLaw.interval, lab_readerLaw.timer, lab_readerLaw.stopped, lab_readerLaw.running, lab_readerLaw.aborting⟩,
    ⟨lab_reportLaw.bound, lab_reportLaw.distinct, lab_reportLaw.counts, lab_reportLaw.above, lab_reportLaw.below⟩,
    ⟨lab_conditionsLaw.live, lab_conditionsLaw.enabled, lab_conditionsLaw.held, rfl⟩,
    ⟨lab_cardsLaw.cards, lab_cardsLaw.known⟩,
    ⟨lab_tablesLaw.active, lab_tablesLaw.stagingCards, lab_tablesLaw.staging, lab_tablesLaw.checking,
      lab_tablesLaw.passed, lab_tablesLaw.handed, lab_tablesLaw.oneSwap⟩,
    lab_relaysLaw, lab_knownLaw, lab_outOfServiceLaw,
    ⟨lab_indicationsLaw.defined, lab_indicationsLaw.coded, lab_indicationsLaw.doubt, rfl⟩, nofun⟩

theorem witness_StepRunsTheFrontCommand : labStep.pending = .upstreamTxDone :: [] ∧ lab.pending = [] := ⟨rfl, rfl⟩

end Sys2Proof.Tests
end

namespace Sys2Proof.Proofs
open Sys2Proof Sys2Proof.Machine Sys2Proof.Laws

/-! ### Frames compose -/

theorem same_refl (s : State) (p : Part) : p.same s s := by cases p <;> rfl

theorem same_trans {s t u : State} {p : Part} (h : p.same s t) (k : p.same t u) : p.same s u := by
  cases p <;> exact Eq.trans k h

theorem changesOnly_refl (s : State) (ps : List Part) : s.changesOnly s ps := fun p _ => same_refl s p

theorem changesOnly_trans {s t u : State} {ps : List Part} (h : s.changesOnly t ps) (k : t.changesOnly u ps) :
    s.changesOnly u ps := fun p hp => same_trans (h p hp) (k p hp)

theorem changesOnly_mono {s t : State} {ps : List Part} (qs : List Part) (h : s.changesOnly t qs)
    (sub : ∀ p ∈ qs, p ∈ ps := by decide) : s.changesOnly t ps := fun p hp => h p fun hq => hp (sub p hq)

/-- An operation of frame `qs` after a change within `ps`, where `ps` holds `qs`. -/
theorem changesOnly_then {s t u : State} {ps qs : List Part} (h : s.changesOnly t ps) (k : t.changesOnly u qs)
    (sub : ∀ p ∈ qs, p ∈ ps := by decide) : s.changesOnly u ps := changesOnly_trans h (changesOnly_mono qs k sub)

/-- An operation applied once for each element of a list keeps what each application keeps. -/
theorem foldl_changesOnly {α : Type} {ps : List Part} {f : State → α → State}
    (h : ∀ (s : State) (a : α), s.changesOnly (f s a) ps) (xs : List α) (s : State) : s.changesOnly (xs.foldl f s) ps := by
  induction xs generalizing s with
  | nil => exact changesOnly_refl s ps
  | cons x xs ih => exact changesOnly_trans (h s x) (ih (f s x))

/-! ### What the shared operations may change -/

theorem announce_changesOnly (os : List Offer) (es ls : List ConditionIdx) (s : State) :
    s.changesOnly (announce os es ls s) announceParts := by
  intro p; cases p <;> simp [Part.same, announceParts]

theorem makeKnown_changesOnly (os : List Offer) (es ls : List ConditionIdx) (s : State) :
    s.changesOnly (makeKnown os es ls s) announceParts := by
  intro p; cases p <;> simp [Part.same, announceParts]

theorem takeFreely_changesOnly (s : State) : s.changesOnly (takeFreely s) announceParts := by
  intro p; cases p <;> simp [Part.same, announceParts]

theorem settle_changesOnly (s : State) : s.changesOnly (settle s) [.report, .conditions] := by
  intro p; cases p <;> simp [Part.same]

theorem rise_changesOnly (n : ConditionIdx) (s : State) : s.changesOnly (rise n s) [.conditions] := by
  intro p; cases p <;> simp [Part.same]

theorem riseAll_changesOnly (ns : List ConditionIdx) (s : State) : s.changesOnly (riseAll ns s) [.conditions] := by
  intro p; cases p <;> simp [Part.same]

theorem followLive_changesOnly (ns : List ConditionIdx) (s : State) : s.changesOnly (followLive ns s) [.conditions] := by
  intro p; cases p <;> simp [Part.same]

theorem putCard_changesOnly (n : CardIdx) (c : CardContext) (s : State) :
    s.changesOnly (putCard n c s) [.cards, .input] := by
  intro p; cases p <;> simp [Part.same]

theorem announceCard_changesOnly (n : CardIdx) (t : Time) (b : CardContext) (es : List ConditionIdx) (s : State) :
    s.changesOnly (announceCard n t b es s) ([.evaluator] ++ announceParts) := by
  intro p; cases p <;> simp [Part.same, announceParts]

theorem changeCard_changesOnly (n : CardIdx) (t : Time) (c : CardContext) (s : State) :
    s.changesOnly (changeCard n t c s) ([.cards, .input, .evaluator] ++ announceParts) := by
  intro p; cases p <;> simp [Part.same, announceParts]

theorem foundAt_changesOnly (place : Nat) (s : State) : s.changesOnly (foundAt place s) [.evaluator] := by
  intro p; cases p <;> simp [Part.same]

theorem atBuild_changesOnly (s : State) : s.changesOnly (atBuild s) [.evaluator, .choices] := by
  intro p; cases p <;> simp [Part.same]

theorem atStatus_changesOnly (s : State) : s.changesOnly (atStatus s) [.evaluator, .choices] := by
  intro p; cases p <;> simp [Part.same]

theorem atRemoval_changesOnly (rs : List ChangeRecord) (s : State) : s.changesOnly (atRemoval rs s) [.evaluator] := by
  intro p; cases p <;> simp [Part.same]

theorem answer_changesOnly (q : Request) (st : AnswerStatus) (b : List Byte) (s : State) :
    s.changesOnly (answer q st b s) [.link] := by
  intro p; cases p <;> simp [Part.same]

theorem answerEntry_changesOnly (q : Request) (e : ResponseEntry) (s : State) :
    s.changesOnly (answerEntry q e s) [.link] := by
  intro p; cases p <;> simp [Part.same]

theorem placeEntry_changesOnly (e : ResponseEntry) (s : State) : s.changesOnly (placeEntry e s) [.link] := by
  intro p; cases p <;> simp [Part.same]

theorem releasePromise_changesOnly (s : State) : s.changesOnly (releasePromise s) [.link] := by
  intro p; cases p <;> simp [Part.same]

theorem deferAnswer_changesOnly (w : CommitWork) (st : AnswerStatus) (b : List Byte) (s : State) :
    s.changesOnly (deferAnswer w st b s) [.link] := by
  intro p; cases p <;> simp [Part.same]

theorem handOn_changesOnly (s : State) : s.changesOnly (handOn s) [.link] := by
  intro p; cases p <;> simp [Part.same]

theorem takeRequest_changesOnly (q : Request) (s : State) : s.changesOnly (takeRequest q s) [.link] := by
  intro p; cases p <;> simp [Part.same]

theorem dropRequest_changesOnly (s : State) : s.changesOnly (dropRequest s) [.link] := by
  intro p; cases p <;> simp [Part.same]

theorem indicationPass_changesOnly (t : Time) (s : State) :
    s.changesOnly (indicationPass t s) ([.evaluator, .indications] ++ announceParts) := by
  intro p; cases p <;> simp [Part.same, announceParts]

theorem relayPass_changesOnly (n : CardIdx) (t : Time) (s : State) :
    s.changesOnly (relayPass n t s) ([.evaluator, .relays] ++ announceParts) := by
  intro p; cases p <;> simp [Part.same, announceParts]

theorem applyEvent_changesOnly (reason : UnprovenReason) (t : Time) (rs : List RelayIdx) (s : State) :
    s.changesOnly (applyEvent reason t rs s) ([.evaluator, .relays, .indications] ++ announceParts) := by
  intro p; cases p <;> simp [Part.same, announceParts]

/-- An owner's row changes no more than the owner's act and the desk link. -/
theorem serve_changesOnly {mine : Request → Bool} {act : Request → State → State} {ps : List Part}
    (h : ∀ (q : Request) (s : State), s.changesOnly (act q s) ps) (link : Part.link ∈ ps) (s : State) :
    s.changesOnly (serve mine act s) ps := by
  have sub : ∀ p ∈ [Part.link], p ∈ ps := by simpa using link
  unfold serve
  split
  next q _ =>
    exact changesOnly_then (changesOnly_trans (changesOnly_mono _ (dropRequest_changesOnly s) sub) (h q _))
      (handOn_changesOnly _) sub
  next => exact changesOnly_refl s ps

/-! ### What each command may change -/

/-- The parts that a command may change, for each command. -/
def writes : Instr → List Part
  | .powerOn _ => [.time, .lanes, .inbox, .cards, .frameQueue, .engine, .input, .relays, .evaluator, .indications,
      .report, .reader, .tables, .link, .conditions]
  | .laneCarrierRise _ | .laneCarrierFall _ | .cardFrameEnd _ _ _ => [.lanes, .inbox]
  | .supervisorFrameTaken _ => [.inbox, .frameQueue, .cards, .input, .evaluator] ++ announceParts
  | .closeExpiry _ => [.cards, .input, .evaluator] ++ announceParts
  | .cardCarrierFall _ | .cardCarrierRise _ => [.inbox, .cards, .input, .evaluator] ++ announceParts
  | .conversionStart =>
    [.frameQueue, .engine, .cards, .input, .relays, .evaluator, .indications] ++ announceParts
  | .conversionComplete | .commitSwapBegin => [.engine, .evaluator]
  | .cardOutEvent | .knownInputsEvent => [.relays, .evaluator, .indications] ++ announceParts
  | .commitSwapComplete => [.cards, .engine, .input, .relays, .indications, .tables, .link] ++ announceParts
  | .checkPass => [.engine, .tables]
  | .checkRefused => [.tables, .link] ++ announceParts
  | .upstreamTxDone => [.evaluator, .report, .reader, .link, .conditions, .choices]
  | .refreshExpiry => [.reader]
  | .trainFrameBuild | .snapshot => [.evaluator, .reader, .link, .choices]
  | .abortedFrameBuild | .refreshControl => [.reader, .link]
  | .upstreamFrameReceived _ | .deskRxIdleTimeout _ _ | .downstreamFrameReceived _ => [.link] ++ announceParts
  | .deferredAnswerPlaced | .downstreamTxDone | .identify | .setChain | .tableRead => [.link]
  | .restart => [.lanes, .cards, .frameQueue, .engine, .input, .relays, .evaluator, .indications, .report, .reader,
      .tables, .link, .conditions]
  | .abort => [.reader, .tables, .link]
  | .readmit | .clearProving | .clearCounters => [.cards, .input, .evaluator, .link] ++ announceParts
  | .tableWrite | .copyActiveToStaging | .commit => [.tables, .link]
  | .timeSet => [.time, .inbox, .cards, .reader, .link] ++ announceParts
  | .statusRead => [.evaluator, .link, .choices]
  | .conditionEnable | .conditionAck => [.evaluator, .link] ++ announceParts
  | .timeBaseMillisecond => [.time]

/-! ### The Supervisor, the conversions and the swap -/

theorem takeFrame_changesOnly (n : CardIdx) (f : GoodFrame) (s : State) :
    s.changesOnly (takeFrame n f s) ([.frameQueue, .cards, .input, .evaluator] ++ announceParts) := by
  unfold takeFrame
  dsimp only
  split
  · intro p; cases p <;> simp [Part.same, announceParts]
  · split <;> (intro p; cases p <;> simp [Part.same, announceParts])

theorem convert_changesOnly (e : QueueEntry) (s : State) :
    s.changesOnly (convert e s) ([.cards, .input, .relays, .evaluator, .indications] ++ announceParts) := by
  have write : s.changesOnly (writeImage e s) ([.cards, .input, .relays, .evaluator, .indications] ++ announceParts) := by
    intro p; cases p <;> simp [Part.same, writeImage]
  unfold convert
  split
  · have begun := changesOnly_trans write (changesOnly_mono (ps := [.cards, .input, .relays, .evaluator, .indications] ++ announceParts)
      [.evaluator] (t := beginPass (some e.card) (writeImage e s)) (by intro p; cases p <;> simp [Part.same]))
    exact changesOnly_then (changesOnly_then begun (relayPass_changesOnly e.card e.arrival _))
      (indicationPass_changesOnly e.arrival _)
  · exact write
  · exact write
  · exact changesOnly_mono _ (putCard_changesOnly e.card _ s)

theorem carryCards_changesOnly (old : Bank) (t : Time) (s : State) :
    s.changesOnly (carryCards old t s) ([.cards, .input] ++ announceParts) :=
  changesOnly_then
    (changesOnly_mono [.cards, .input] (foldl_changesOnly (fun s n => putCard_changesOnly n _ s) (List.finRange 16) s))
    (makeKnown_changesOnly _ _ _ _)

theorem carryRelays_changesOnly (old : Bank) (t : Time) (s : State) :
    s.changesOnly (carryRelays old t s) ([.relays] ++ announceParts) := by
  intro p; cases p <;> simp [Part.same, announceParts, carryRelays]

theorem carryIndications_changesOnly (old : Bank) (t : Time) (s : State) :
    s.changesOnly (carryIndications old t s) ([.indications] ++ announceParts) := by
  intro p; cases p <;> simp [Part.same, announceParts, carryIndications]

theorem finishSwap_changesOnly (s : State) :
    s.changesOnly (finishSwap s) ([.engine, .tables, .link] ++ announceParts) := by
  unfold finishSwap
  refine changesOnly_then ?_ (announce_changesOnly [] [cCommitDone] [] _)
  intro p
  cases s.tables.checker <;> cases p <;> simp [Part.same]

theorem swap_changesOnly (t : Time) (s : State) :
    s.changesOnly (swap t s) ([.cards, .engine, .input, .relays, .indications, .tables, .link] ++ announceParts) := by
  have banks : s.changesOnly (swapBanks s) [.tables] := by intro p; cases p <;> simp [Part.same, swapBanks]
  unfold swap
  refine changesOnly_then ?_ (finishSwap_changesOnly _)
  refine changesOnly_then ?_ (carryIndications_changesOnly _ t _)
  refine changesOnly_then ?_ (carryRelays_changesOnly _ t _)
  exact changesOnly_then (changesOnly_mono _ banks) (carryCards_changesOnly _ t _)

/-! ### The Image Reader and the desk ports -/

theorem sendTrainFrame_changesOnly (w : TrainWork) (place : ResponseEntry → State → State)
    (h : ∀ (e : ResponseEntry) (s : State), s.changesOnly (place e s) [.link]) (s : State) :
    s.changesOnly (sendTrainFrame w place s) [.evaluator, .reader, .link, .choices] := by
  have build := changesOnly_mono (ps := [.evaluator, .reader, .link, .choices]) _ (atBuild_changesOnly s)
  have train : ∀ (t : Train) (u : State), u.changesOnly (setTrain t u) [.reader] := by
    intro t u p; cases p <;> simp [Part.same, setTrain]
  exact changesOnly_then (changesOnly_then build (h _ _)) (train _ _)

theorem offerDownward_changesOnly (f : DeskFrame) (s : State) : s.changesOnly (offerDownward f s) [.link] := by
  unfold offerDownward
  split <;> (intro p; cases p <;> simp [Part.same, setLinkCounters])

theorem routeUpstream_changesOnly (f : DeskFrame) (s : State) : s.changesOnly (routeUpstream f s) [.link] := by
  have counters : ∀ c, s.changesOnly (setLinkCounters c s) [.link] := by
    intro c p; cases p <;> simp [Part.same, setLinkCounters]
  unfold routeUpstream consumeOwn
  dsimp only
  split
  · exact counters _
  split
  · split
    · intro p; cases p <;> simp [Part.same]
    · exact counters _
  split
  · exact changesOnly_trans (takeRequest_changesOnly _ s) (offerDownward_changesOnly f _)
  split
  · exact offerDownward_changesOnly f s
  · exact counters _

theorem badFrame_changesOnly (port : Port) (s : State) :
    s.changesOnly (badFrame port s) ([.link] ++ announceParts) := by
  intro p; cases p <;> simp [Part.same, announceParts, badFrame, setLinkCounters]

theorem offerForward_changesOnly (f : DeskFrame) (s : State) :
    s.changesOnly (offerForward f s) ([.link] ++ announceParts) := by
  unfold offerForward
  split <;> (intro p; cases p <;> simp [Part.same, announceParts, setLinkCounters])

theorem removeReport_changesOnly (s : State) :
    s.changesOnly (removeReport s) [.report, .reader, .conditions] := by
  unfold removeReport resynchronise
  dsimp only
  split <;> (intro p; cases p <;> simp [Part.same])

theorem grantOwn_changesOnly (turn : OwnTurn) (s : State) :
    s.changesOnly (grantOwn turn s) [.evaluator, .report, .reader, .link, .conditions, .choices] := by
  have build : s.changesOnly (turn.atBuild s) [.evaluator, .report, .reader, .link, .conditions, .choices] := by
    cases turn with
    | report => exact changesOnly_mono _ (atRemoval_changesOnly _ s)
    | urgentImage b => exact changesOnly_mono _ (atBuild_changesOnly s)
    | regularImage => exact changesOnly_mono _ (atBuild_changesOnly s)
  have took : ∀ u : State, u.changesOnly (takeOwnTurn turn u) [.report, .reader, .conditions] := by
    intro u
    cases turn with
    | report => exact removeReport_changesOnly u
    | urgentImage b => intro p; cases p <;> simp [Part.same, takeOwnTurn]
    | regularImage => intro p; cases p <;> simp [Part.same, takeOwnTurn]
  have sent : ∀ (f : DeskFrame) (l : DeskLink) (u : State), u.changesOnly (beginUpstream f (u.setLink l)) [.link] := by
    intro f l u p; cases p <;> simp [Part.same, beginUpstream]
  exact changesOnly_then (changesOnly_then build (took _)) (sent _ _ _)

theorem chooseUpstream_changesOnly (s : State) :
    s.changesOnly (chooseUpstream s) [.evaluator, .report, .reader, .link, .conditions, .choices] := by
  have forward : ∀ f rest, s.changesOnly (grantForward f rest s) [.evaluator, .report, .reader, .link, .conditions, .choices] := by
    intro f rest p; cases p <;> simp [Part.same, grantForward, beginUpstream]
  unfold chooseUpstream chooseBelow
  split
  · intro p; cases p <;> simp [Part.same, beginUpstream]
  split
  · exact changesOnly_refl s _
  · exact grantOwn_changesOnly _ s
  · exact forward _ _
  split
  · exact grantOwn_changesOnly _ s
  · exact forward _ _

/-! ### The owners' acts -/

theorem restartConditions_changesOnly (s : State) : s.changesOnly (restartConditions s) [.report, .conditions] := by
  have cleared : s.changesOnly (s.setConditions { s.conditions with latched := Vector.replicate 11 false })
      [.report, .conditions] := by
    intro p; cases p <;> simp [Part.same]
  unfold restartConditions
  refine changesOnly_then ?_ (settle_changesOnly _)
  exact changesOnly_then (changesOnly_then cleared (followLive_changesOnly _ _)) (riseAll_changesOnly _ _)

/-- Every block's reset but the Condition Unit's. -/
def restartBlocks (s : State) : State := restartLink (restartDeskSide (restartEvaluators (restartSamplePath s)))

theorem restartAll_eq (s : State) : restartAll s = restartConditions (restartBlocks s) := rfl

theorem restartBlocks_changesOnly (s : State) : s.changesOnly (restartBlocks s) (writes .restart) := by
  intro p
  cases p <;>
    simp [Part.same, writes, restartBlocks, restartLink, restartDeskSide, restartEvaluators, restartSamplePath]

theorem restartAll_changesOnly (s : State) : s.changesOnly (restartAll s) (writes .restart) :=
  changesOnly_then (restartBlocks_changesOnly s) (restartConditions_changesOnly (restartBlocks s))

/-- After RESTART each block but the Report Queue and the Condition Unit stands as its own reset left it. -/
theorem restartAll_same (s : State) (p : Part) (h : p ∉ [Part.report, .conditions]) :
    p.same (restartBlocks s) (restartAll s) := restartConditions_changesOnly (restartBlocks s) p h

theorem actRestart_changesOnly (q : Request) (s : State) : s.changesOnly (actRestart q s) (writes .restart) := by
  unfold actRestart
  dsimp only
  split
  · exact changesOnly_then (restartAll_changesOnly s) (placeEntry_changesOnly _ _)
  · exact restartAll_changesOnly s

theorem actCardControl_changesOnly {action : CardIdx → State → State}
    (h : ∀ (n : CardIdx) (s : State), s.changesOnly (action n s) ([.cards, .input, .evaluator] ++ announceParts))
    (q : Request) (s : State) : s.changesOnly (actCardControl action q s) (writes .readmit) := by
  unfold actCardControl
  split
  · exact changesOnly_then (changesOnly_mono _ (h _ s)) (answer_changesOnly q .ok [] _)
  · exact changesOnly_mono _ (answer_changesOnly q .field [] s)

theorem actSetChain_changesOnly (q : Request) (s : State) : s.changesOnly (actSetChain q s) [.link] := by
  have range : ∀ r, s.changesOnly (setRange r s) [.link] := by intro r p; cases p <;> simp [Part.same, setRange]
  unfold actSetChain
  split
  · exact changesOnly_trans (range _) (answer_changesOnly q .ok _ _)
  · exact answer_changesOnly q .field [] s

theorem actAbort_changesOnly (q : Request) (s : State) : s.changesOnly (actAbort q s) [.reader, .tables, .link] := by
  have train : s.changesOnly (abortTrain s) [.reader] := by
    unfold abortTrain setTrain; split <;> (intro p; cases p <;> simp [Part.same])
  have check : ∀ u : State, u.changesOnly (abortCheck u) [.tables, .link] := by
    intro u
    unfold abortCheck; split <;> (intro p; cases p <;> simp [Part.same])
  exact changesOnly_then (changesOnly_then (changesOnly_mono _ train) (check _)) (answer_changesOnly q .ok _ _)

theorem setStaging_changesOnly (b : Bank) (s : State) : s.changesOnly (setStaging b s) [.tables] := by
  intro p; cases p <;> simp [Part.same, setStaging]

theorem actTableWrite_changesOnly (q : Request) (s : State) : s.changesOnly (actTableWrite q s) [.tables, .link] := by
  have turned : ∀ st b, s.changesOnly (answer q st b s) [.tables, .link] :=
    fun st b => changesOnly_mono _ (answer_changesOnly q st b s)
  unfold actTableWrite writeSpan
  dsimp only
  split
  · exact turned _ _
  split
  · exact turned _ _
  split
  · exact turned _ _
  split
  · exact turned _ _
  split
  · exact turned _ _
  split
  · exact turned _ _
  · exact changesOnly_then (changesOnly_mono _ (setStaging_changesOnly _ s)) (answer_changesOnly q .ok [] _)

theorem actTableRead_changesOnly (q : Request) (s : State) : s.changesOnly (actTableRead q s) [.link] := by
  unfold actTableRead
  dsimp only
  split
  · split
    · exact answer_changesOnly _ _ _ _
    split
    · exact answer_changesOnly _ _ _ _
    · exact answer_changesOnly _ _ _ _
  · exact answer_changesOnly _ _ _ _

theorem actCopy_changesOnly (q : Request) (s : State) : s.changesOnly (actCopy q s) [.tables, .link] := by
  unfold actCopy
  split
  · exact changesOnly_mono _ (answer_changesOnly q .busy [] s)
  · exact changesOnly_then (changesOnly_mono _ (setStaging_changesOnly _ s)) (answer_changesOnly q .ok [] _)

theorem actCommit_changesOnly (q : Request) (s : State) : s.changesOnly (actCommit q s) [.tables, .link] := by
  unfold actCommit
  dsimp only
  split
  · exact changesOnly_mono _ (answer_changesOnly q .busy [] s)
  · split <;> (intro p; cases p <;> simp [Part.same])

theorem actSnapshot_changesOnly (q : Request) (s : State) :
    s.changesOnly (actSnapshot q s) [.evaluator, .reader, .link, .choices] := by
  have turned : ∀ st b, s.changesOnly (answer q st b s) [.evaluator, .reader, .link, .choices] :=
    fun st b => changesOnly_mono _ (answer_changesOnly q st b s)
  unfold actSnapshot beginTrain
  dsimp only
  split
  · exact turned _ _
  split
  · exact turned _ _
  split
  · exact turned _ _
  split
  · exact turned _ _
  split
  · exact sendTrainFrame_changesOnly _ _ (answerEntry_changesOnly q) s
  · exact changesOnly_refl s _

theorem actRefreshControl_changesOnly (q : Request) (s : State) :
    s.changesOnly (actRefreshControl q s) [.reader, .link] := by
  unfold actRefreshControl
  dsimp only
  split <;> (intro p; cases p <;> simp [Part.same])

theorem actTimeSet_changesOnly (q : Request) (s : State) : s.changesOnly (actTimeSet q s) (writes .timeSet) := by
  intro p; cases p <;> simp [Part.same, writes, announceParts, actTimeSet, loadTime]

theorem actStatusRead_changesOnly (q : Request) (s : State) :
    s.changesOnly (actStatusRead q s) [.evaluator, .link, .choices] :=
  changesOnly_then (changesOnly_mono _ (atStatus_changesOnly s)) (answer_changesOnly q .ok _ _)

theorem enableCondition_changesOnly (old : Vector Bool 11) (s : State) (n : ConditionIdx) :
    s.changesOnly (enableCondition old s n) announceParts := by
  unfold enableCondition
  split
  · exact changesOnly_trans (changesOnly_mono _ (rise_changesOnly n s)) (takeFreely_changesOnly _)
  split
  · intro p; cases p <;> simp [Part.same, announceParts]
  · exact changesOnly_refl s _

theorem ackCondition_changesOnly (named : Vector Bool 11) (s : State) (n : ConditionIdx) :
    s.changesOnly (ackCondition named s n) announceParts := by
  have cleared : s.changesOnly (s.setLatched n false) announceParts := by
    intro p; cases p <;> simp [Part.same, announceParts]
  unfold ackCondition
  dsimp only
  split
  · split
    · exact changesOnly_trans (changesOnly_then cleared (rise_changesOnly n _)) (takeFreely_changesOnly _)
    · exact cleared
  · exact changesOnly_refl s _

theorem replaceEnables_changesOnly (enables : Vector Bool 11) (s : State) :
    s.changesOnly (replaceEnables enables s) announceParts := by
  have replaced : s.changesOnly (s.setConditions { s.conditions with enables := enables }) announceParts := by
    intro p; cases p <;> simp [Part.same, announceParts]
  exact changesOnly_then (changesOnly_trans replaced (foldl_changesOnly (enableCondition_changesOnly _) _ _))
    (settle_changesOnly _)

theorem acknowledge_changesOnly (named : Vector Bool 11) (s : State) :
    s.changesOnly (acknowledge named s) announceParts :=
  changesOnly_then (foldl_changesOnly (ackCondition_changesOnly named) _ s) (settle_changesOnly _)

theorem actConditionEnable_changesOnly (q : Request) (s : State) :
    s.changesOnly (actConditionEnable q s) (writes .conditionEnable) := by
  unfold actConditionEnable
  dsimp only
  split
  · exact changesOnly_mono _ (answer_changesOnly q .field [] s)
  · exact changesOnly_then (changesOnly_then (changesOnly_mono _ (foundAt_changesOnly passEnd s))
      (replaceEnables_changesOnly _ _)) (answer_changesOnly q .ok _ _)

theorem actConditionAck_changesOnly (q : Request) (s : State) :
    s.changesOnly (actConditionAck q s) (writes .conditionAck) := by
  unfold actConditionAck
  dsimp only
  split
  · exact changesOnly_mono _ (answer_changesOnly q .field [] s)
  · exact changesOnly_then (changesOnly_then (changesOnly_mono _ (foundAt_changesOnly passEnd s))
      (acknowledge_changesOnly _ _)) (answer_changesOnly q .ok _ _)

end Sys2Proof.Proofs

namespace Sys2Proof.Proofs
open Sys2Proof Sys2Proof.Machine Sys2Proof.Laws

/-! ### Every command -/

theorem laneCommands_changesOnly (n : CardIdx) (l : LaneReceiver) (e : LaneEvent) (s : State) :
    s.changesOnly (putLane n l s) [.lanes, .inbox] ∧
      s.changesOnly (sendLane n e (putLane n l s)) [.lanes, .inbox] := by
  constructor <;> (intro p; cases p <;> simp [Part.same, putLane, sendLane])

/-- The command at a card: an event of the card's inbox is popped and the card changed, or nothing happens. -/
theorem popInbox_changesOnly (n : CardIdx) (s : State) : s.changesOnly (popInbox n s) [.inbox] := by
  intro p; cases p <;> simp [Part.same, popInbox]

theorem endPass_changesOnly (s : State) : s.changesOnly (endPass s) [.evaluator] := by
  intro p; cases p <;> simp [Part.same]

theorem popEvent_changesOnly (s : State) : s.changesOnly (popEvent s) [.evaluator] := by
  intro p; cases p <;> simp [Part.same, popEvent]

theorem setEngine_changesOnly (v : Engine) (s : State) : s.changesOnly (s.setEngine v) [.engine] := by
  intro p; cases p <;> simp [Part.same]

theorem setLink_changesOnly (v : DeskLink) (s : State) : s.changesOnly (s.setLink v) [.link] := by
  intro p; cases p <;> simp [Part.same]

theorem setReader_changesOnly (v : ImageReader) (s : State) : s.changesOnly (s.setReader v) [.reader] := by
  intro p; cases p <;> simp [Part.same]

theorem setTables_changesOnly (v : TableStore) (s : State) : s.changesOnly (s.setTables v) [.tables] := by
  intro p; cases p <;> simp [Part.same]

/-- A command changes no part but those that `writes` lists for it. -/
theorem exec_changesOnly (c : Instr) (s t : State) (h : exec c s = .next t) : s.changesOnly t (writes c) := by
  have stays : s.changesOnly s (writes c) := changesOnly_refl s _
  cases c with
  | powerOn straps =>
    cases h
    intro p; cases p <;> simp [Part.same, writes]
  | laneCarrierRise n =>
    injection h with h; subst h
    split
    · exact stays
    · exact (laneCommands_changesOnly n _ _ s).2
  | laneCarrierFall n =>
    injection h with h; subst h
    split
    · exact (laneCommands_changesOnly n _ _ s).2
    · exact stays
  | cardFrameEnd n run k =>
    injection h with h; subst h
    unfold sequenceCheck
    dsimp only
    split
    · exact stays
    · exact (laneCommands_changesOnly n _ .carrierRise s).1
    · exact (laneCommands_changesOnly n _ .carrierRise s).1
    · exact (laneCommands_changesOnly n _ .carrierRise s).1
    split
    · exact (laneCommands_changesOnly n _ .carrierRise s).1
    · exact (laneCommands_changesOnly n _ _ s).2
  | supervisorFrameTaken n =>
    injection h with h; subst h
    split
    · exact stays
    split
    · exact changesOnly_then (changesOnly_mono _ (popInbox_changesOnly n s) (by simp [writes, announceParts]))
        (takeFrame_changesOnly n _ _) (by simp [writes, announceParts])
    · exact stays
  | closeExpiry n =>
    injection h with h; subst h
    split
    · split
      · exact changeCard_changesOnly n _ _ s
      · exact stays
    · exact stays
  | cardCarrierFall n =>
    injection h with h; subst h
    split
    · exact stays
    split
    · exact changesOnly_then (changesOnly_mono _ (popInbox_changesOnly n s) (by simp [writes, announceParts]))
        (changeCard_changesOnly n _ _ _) (by simp [writes, announceParts])
    · exact stays
  | cardCarrierRise n =>
    injection h with h; subst h
    split
    · exact stays
    split
    · exact changesOnly_then (changesOnly_mono _ (popInbox_changesOnly n s) (by simp [writes, announceParts]))
        (changeCard_changesOnly n _ _ _) (by simp [writes, announceParts])
    · exact stays
  | conversionStart =>
    injection h with h; subst h
    split
    · split
      next e rest _ =>
        have taken : s.changesOnly ((s.setFrameQueue rest).setEngine
            { s.engine with state := .converting e (s.runsPass e) }) (writes .conversionStart) := by
          intro p; cases p <;> simp [Part.same, writes]
        exact changesOnly_then (changesOnly_then taken (endPass_changesOnly _)) (convert_changesOnly e _)
      next => exact stays
    · exact stays
  | conversionComplete =>
    injection h with h; subst h
    split
    · split
      · exact changesOnly_then (changesOnly_mono _ (setEngine_changesOnly _ s)) (endPass_changesOnly _)
      · exact stays
    · exact changesOnly_mono _ (setEngine_changesOnly _ s)
    · exact stays
    · exact stays
  | cardOutEvent =>
    injection h with h; subst h
    split
    · exact stays
    split
    · exact changesOnly_then (changesOnly_mono _ (popEvent_changesOnly s)) (applyEvent_changesOnly _ _ _ _)
    · exact stays
  | knownInputsEvent =>
    injection h with h; subst h
    split
    · exact stays
    split
    · exact changesOnly_then (changesOnly_mono _ (popEvent_changesOnly s)) (applyEvent_changesOnly _ _ _ _)
    · exact stays
  | commitSwapBegin =>
    injection h with h; subst h
    split
    · exact changesOnly_then (changesOnly_mono _ (setEngine_changesOnly _ s)) (endPass_changesOnly _)
    · exact stays
  | commitSwapComplete =>
    injection h with h; subst h
    split
    · exact changesOnly_then (swap_changesOnly _ s) (handOn_changesOnly _)
    · exact stays
  | checkPass =>
    injection h with h; subst h
    split
    · split
      · exact changesOnly_then (changesOnly_mono _ (setTables_changesOnly _ s)) (setEngine_changesOnly _ _)
      · exact stays
    · exact stays
  | checkRefused =>
    injection h with h; subst h
    split
    · split
      · exact changesOnly_then (changesOnly_then (changesOnly_mono _ (setTables_changesOnly _ s))
          (deferAnswer_changesOnly _ _ _ _)) (announce_changesOnly _ _ _ _)
      · exact stays
    · exact stays
  | deferredAnswerPlaced =>
    injection h with h; subst h
    split
    · split
      · exact changesOnly_trans (setLink_changesOnly _ s) (placeEntry_changesOnly _ _)
      · exact stays
    · exact stays
  | upstreamTxDone =>
    injection h with h; subst h
    exact changesOnly_trans (changesOnly_mono _ (setLink_changesOnly _ s)) (chooseUpstream_changesOnly _)
  | refreshExpiry =>
    injection h with h; subst h
    split
    · split
      · exact setReader_changesOnly _ s
      · exact stays
    · exact stays
  | trainFrameBuild =>
    injection h with h; subst h
    split
    · split
      · exact sendTrainFrame_changesOnly _ _ placeEntry_changesOnly s
      · exact stays
    · exact stays
  | abortedFrameBuild =>
    injection h with h; subst h
    split
    · split
      · exact changesOnly_then (changesOnly_mono _ (placeEntry_changesOnly _ s)) (setReader_changesOnly _ _)
      · exact stays
    · exact stays
  | upstreamFrameReceived chars =>
    injection h with h; subst h
    split
    · exact changesOnly_mono _ (routeUpstream_changesOnly _ s) (by simp [writes, announceParts])
    · exact badFrame_changesOnly _ s
    · exact stays
  | deskRxIdleTimeout port chars =>
    injection h with h; subst h
    split
    · exact badFrame_changesOnly _ s
    · exact badFrame_changesOnly _ s
    · exact stays
    · exact stays
    · exact stays
  | downstreamFrameReceived chars =>
    injection h with h; subst h
    split
    · exact offerForward_changesOnly _ s
    · exact badFrame_changesOnly _ s
    · exact stays
  | downstreamTxDone =>
    injection h with h; subst h
    split
    · exact setLink_changesOnly _ s
    · exact setLink_changesOnly _ s
  | identify => cases h; exact serve_changesOnly (fun q s => answer_changesOnly q _ _ s) (by decide) s
  | setChain => cases h; exact serve_changesOnly actSetChain_changesOnly (by decide) s
  | restart => cases h; exact serve_changesOnly actRestart_changesOnly (by decide) s
  | abort => cases h; exact serve_changesOnly actAbort_changesOnly (by decide) s
  | readmit =>
    cases h
    exact serve_changesOnly (actCardControl_changesOnly fun n s => changeCard_changesOnly n _ _ s) (by decide) s
  | clearProving =>
    cases h
    exact serve_changesOnly (actCardControl_changesOnly fun n s => changeCard_changesOnly n _ _ s) (by decide) s
  | clearCounters =>
    cases h
    exact serve_changesOnly (actCardControl_changesOnly fun n s => changeCard_changesOnly n _ _ s) (by decide) s
  | tableWrite => cases h; exact serve_changesOnly actTableWrite_changesOnly (by decide) s
  | tableRead => cases h; exact serve_changesOnly actTableRead_changesOnly (by decide) s
  | copyActiveToStaging => cases h; exact serve_changesOnly actCopy_changesOnly (by decide) s
  | commit => cases h; exact serve_changesOnly actCommit_changesOnly (by decide) s
  | snapshot => cases h; exact serve_changesOnly actSnapshot_changesOnly (by decide) s
  | refreshControl => cases h; exact serve_changesOnly actRefreshControl_changesOnly (by decide) s
  | timeSet => cases h; exact serve_changesOnly actTimeSet_changesOnly (by decide) s
  | statusRead => cases h; exact serve_changesOnly actStatusRead_changesOnly (by decide) s
  | conditionEnable => cases h; exact serve_changesOnly actConditionEnable_changesOnly (by decide) s
  | conditionAck => cases h; exact serve_changesOnly actConditionAck_changesOnly (by decide) s
  | timeBaseMillisecond => cases h; intro p; cases p <;> simp [Part.same, writes]

end Sys2Proof.Proofs

namespace Sys2Proof.Proofs
open Sys2Proof Sys2Proof.Machine Sys2Proof.Laws

/-! ### Properties that read some parts only -/

/-- A property of the state that the parts listed decide. -/
def ReadsOnly (P : State → Prop) (ps : List Part) : Prop :=
  ∀ s t : State, (∀ p ∈ ps, p.same s t) → P s → P t

theorem readsOnly_mono {P : State → Prop} {ps qs : List Part} (dep : ReadsOnly P ps)
    (sub : ∀ p ∈ ps, p ∈ qs := by decide) : ReadsOnly P qs :=
  fun s t same => dep s t fun p hp => same p (sub p hp)

/-- A property is kept where none of the parts it reads may change. -/
theorem ReadsOnly.keeps {P : State → Prop} {ps qs : List Part} (dep : ReadsOnly P ps) {s t : State}
    (h : s.changesOnly t qs) (hs : P s) (away : ∀ p ∈ ps, p ∉ qs := by decide) : P t :=
  dep s t (fun p hp => h p (away p hp)) hs

/-- What every command keeps, every step keeps. -/
theorem step_keeps {P : State → Prop} {ps : List Part} (dep : ReadsOnly P ps) (away : Part.pending ∉ ps)
    (kept : ∀ c s t, exec c s = .next t → P s → P t) (s t : State) (h : step s = .next t) (hs : P s) : P t := by
  unfold step at h
  split at h
  next c rest _ =>
    have queued : s.changesOnly (s.setPending rest) [.pending] := by intro p; cases p <;> simp [Part.same]
    refine kept c _ t h (dep.keeps queued hs fun p hp => ?_)
    rintro hq
    exact away (by rwa [List.mem_singleton.1 hq] at hp)
  next => cases h; exact hs

/-- A row of the desk's requests keeps a property away from the desk link that its owner's act keeps. -/
theorem serve_keeps {P : State → Prop} {ps : List Part} (dep : ReadsOnly P ps) (away : Part.link ∉ ps)
    {mine : Request → Bool} {act : Request → State → State} (kept : ∀ q s, P s → P (act q s)) (s : State)
    (hs : P s) : P (serve mine act s) := by
  have apart : ∀ p ∈ ps, p ∉ [Part.link] := fun p hp hq => away (by rwa [List.mem_singleton.1 hq] at hp)
  unfold serve
  split
  · exact dep.keeps (handOn_changesOnly _) (kept _ _ (dep.keeps (dropRequest_changesOnly s) hs apart)) apart
  · exact hs

/-- RESTART's answer leaves what every block's reset leaves, away from the desk link. -/
theorem actRestart_keeps {P : State → Prop} {ps : List Part} (dep : ReadsOnly P ps) {q : Request} {s : State}
    (reset : P (restartAll s)) (away : ∀ p ∈ ps, p ∉ [Part.link] := by decide) : P (actRestart q s) := by
  unfold actRestart
  dsimp only
  split
  · exact dep.keeps (placeEntry_changesOnly _ _) reset away
  · exact reset

/-! ### What the taking of offers keeps -/

/-- A property of the Report Queue and the Time Base that the taking of every offer that meets `ok` keeps; the Condition
Unit's own offers meet it. -/
structure OfferInvariant (P : State → Prop) (ok : Offer → Prop) : Prop where
  reads : ReadsOnly P [.time, .report]
  takes : ∀ o s, ok o → P s → P (queueTakes o s)
  conditions : ∀ n t, ok { subject := .condition n, value := .condition n, time := t }

/-- A property holds, and the CONDITION records that wait may be taken without losing it. -/
def Holding (P : State → Prop) (ok : Offer → Prop) (s : State) : Prop := P s ∧ ∀ o ∈ s.conditions.waiting, ok o

/-- A latch brings one CONDITION record to those that wait. -/
theorem rise_waiting (n : ConditionIdx) (s : State) :
    (rise n s).conditions.waiting =
      if s.canLatch n then s.conditions.waiting ++ [s.conditionOffer n] else s.conditions.waiting := by
  unfold rise; split <;> rfl

theorem setLive_waiting (n : ConditionIdx) (b : Bool) (s : State) :
    (s.setLive n b).conditions.waiting = s.conditions.waiting := rfl

/-- The queue after it has taken an offer. -/
theorem queueTakes_report (o : Offer) (s : State) :
    (queueTakes o s).report = (takeOffer s.time.valid o s.report).1 := by
  unfold queueTakes
  dsimp only
  split
  · rfl
  · split <;> simp
  · simp

section Offers
variable {P : State → Prop} {ok : Offer → Prop} (inv : OfferInvariant P ok)
include inv

theorem OfferInvariant.keeps_away {s t : State} (qs : List Part) (hs : Holding P ok s) (h : s.changesOnly t qs)
    (waiting : t.conditions.waiting = s.conditions.waiting)
    (away : ∀ p ∈ [Part.time, Part.report], p ∉ qs := by decide) : Holding P ok t :=
  ⟨inv.reads.keeps h hs.1 away, waiting ▸ hs.2⟩

theorem OfferInvariant.setEvaluator {s : State} (v : Evaluator) (hs : Holding P ok s) : Holding P ok (s.setEvaluator v) :=
  inv.keeps_away [.evaluator] hs (by intro p; cases p <;> simp [Part.same]) rfl

theorem OfferInvariant.rise {s : State} (n : ConditionIdx) (hs : Holding P ok s) : Holding P ok (rise n s) := by
  refine ⟨inv.reads.keeps (rise_changesOnly n s) hs.1, fun o ho => ?_⟩
  rw [rise_waiting] at ho
  split at ho
  · rcases List.mem_append.1 ho with h | h
    · exact hs.2 o h
    · rw [List.mem_singleton.1 h]; exact inv.conditions n _
  · exact hs.2 o ho

theorem OfferInvariant.riseAll {s : State} (ns : List ConditionIdx) (hs : Holding P ok s) :
    Holding P ok (riseAll ns s) :=
  List.foldlRecOn ns _ hs fun _ h n _ => inv.rise n h

omit inv in
/-- REPORT_HIGH and REPORT_OVERFLOW only add CONDITION records to those that wait. -/
theorem waiting_queueTakes (conditions : ∀ n t, ok { subject := .condition n, value := .condition n, time := t })
    (o : Offer) {s : State} (h : ∀ w ∈ s.conditions.waiting, ok w) : ∀ w ∈ (Machine.queueTakes o s).conditions.waiting, ok w := by
  have plain : Holding (fun _ => True) ok (s.setReport (takeOffer s.time.valid o s.report).1) := ⟨trivial, h⟩
  have trivially : OfferInvariant (fun _ => True) ok := ⟨fun _ _ _ _ => trivial, fun _ _ _ _ => trivial, conditions⟩
  suffices taken : Holding (fun _ => True) ok (Machine.queueTakes o s) from taken.2
  unfold Machine.queueTakes
  dsimp only
  split
  · exact plain
  · split
    · exact trivially.rise _ ⟨trivial, plain.2⟩
    · exact plain
  · exact trivially.rise _ plain

theorem OfferInvariant.queueTakes {o : Offer} {s : State} (ho : ok o) (hs : Holding P ok s) :
    Holding P ok (queueTakes o s) :=
  ⟨inv.takes o s ho hs.1, waiting_queueTakes inv.conditions o hs.2⟩

theorem OfferInvariant.takeWaiting {s : State} (hs : Holding P ok s) : Holding P ok (takeWaiting s) := by
  unfold Machine.takeWaiting
  split
  next o rest w =>
    have popped : s.changesOnly (s.setWaiting rest) [.conditions] := by intro p; cases p <;> simp [Part.same]
    refine inv.queueTakes (hs.2 o (by simp [w])) ⟨inv.reads.keeps popped hs.1, fun o' h => hs.2 o' ?_⟩
    rw [w]
    exact List.mem_cons_of_mem o h
  next => exact hs

theorem OfferInvariant.takeSome (k : Nat) {s : State} (hs : Holding P ok s) : Holding P ok (takeSome k s) := by
  induction k generalizing s with
  | zero => exact hs
  | succ k ih => exact ih (inv.takeWaiting hs)

theorem OfferInvariant.takeFreely {s : State} (hs : Holding P ok s) : Holding P ok (takeFreely s) := by
  unfold Machine.takeFreely
  split
  · exact hs
  · have counted : s.changesOnly (s.setChoices (s.choices + 1)) [.choices] := by intro p; cases p <;> simp [Part.same]
    exact inv.takeSome _ (inv.keeps_away _ hs counted rfl)

theorem OfferInvariant.settle {s : State} (hs : Holding P ok s) : Holding P ok (settle s) := inv.takeSome _ hs

theorem OfferInvariant.offer {o : Offer} {s : State} (ho : ok o) (hs : Holding P ok s) : Holding P ok (offer o s) :=
  inv.queueTakes ho (inv.takeFreely hs)

theorem OfferInvariant.offerAll {os : List Offer} {s : State} (ho : ∀ o ∈ os, ok o) (hs : Holding P ok s) :
    Holding P ok (offerAll os s) :=
  List.foldlRecOn os _ hs fun _ h o m => inv.offer (ho o m) h

theorem OfferInvariant.makeKnown {os : List Offer} {s : State} (es ls : List ConditionIdx) (ho : ∀ o ∈ os, ok o)
    (hs : Holding P ok s) : Holding P ok (makeKnown os es ls s) :=
  inv.offerAll ho (inv.riseAll _ (inv.keeps_away _ hs (followLive_changesOnly ls s) rfl))

theorem OfferInvariant.announce {os : List Offer} {s : State} (es ls : List ConditionIdx) (ho : ∀ o ∈ os, ok o)
    (hs : Holding P ok s) : Holding P ok (announce os es ls s) :=
  inv.settle (inv.makeKnown es ls ho hs)

/-- A card's change offers records of the card alone. -/
theorem OfferInvariant.announceCard {n : CardIdx} {t : Time} {b : CardContext} {s : State} (es : List ConditionIdx)
    (ho : ∀ v t, ok { subject := .card n, value := v, time := t }) (hs : Holding P ok s) :
    Holding P ok (announceCard n t b es s) := by
  unfold Machine.announceCard
  refine inv.announce es _ (fun o h => ?_) ?_
  · unfold cardOffers at h
    split at h
    · exact nomatch h
    · rw [List.mem_singleton.1 h]; exact ho _ _
  · have sent : s.changesOnly (sendEvents (cardEvents n t b s.cards[n]) (pastRelays (s.passReads n b s.cards[n]) s))
        [.evaluator] := by
      intro p; cases p <;> simp [Part.same]
    exact inv.keeps_away _ hs sent (by simp)

theorem OfferInvariant.changeCard {n : CardIdx} {t : Time} {c : CardContext} {s : State}
    (ho : ∀ v t, ok { subject := .card n, value := v, time := t }) (hs : Holding P ok s) :
    Holding P ok (changeCard n t c s) :=
  inv.announceCard [] ho (inv.keeps_away _ hs (putCard_changesOnly n c s) rfl)

/-- A relay's new record offers at most its RELAY record. -/
theorem OfferInvariant.storeRelay {r : RelayIdx} {x : RelayRuntime} {s : State} (ho : ok (relayOffer r x))
    (hs : Holding P ok s) : Holding P ok (storeRelay r x s) := by
  have stored : Holding P ok (s.setRelays (s.relays.set r x)) :=
    inv.keeps_away [.relays] hs (by intro p; cases p <;> simp [Part.same]) rfl
  have marked : ∀ v, Holding P ok ((s.setRelays (s.relays.set r x)).setEvaluator v) := fun v => inv.setEvaluator v stored
  have known : ∀ u, Holding P ok u → Holding P ok (Machine.makeKnown [relayOffer r x] [] [cRelayFault] u) :=
    fun u h => inv.makeKnown [] [cRelayFault] (fun o m => by rwa [List.mem_singleton.1 m]) h
  unfold Machine.storeRelay
  dsimp only
  split <;> split
  · exact stored
  · exact marked _
  · exact known _ stored
  · exact known _ (marked _)

theorem OfferInvariant.relayPass {n : CardIdx} {t : Time} {s : State}
    (ho : ∀ r ∈ s.tables.active.relaysOf n, ∀ x, ok (relayOffer r x)) (hs : Holding P ok s) :
    Holding P ok (relayPass n t s) :=
  List.foldlRecOn _ _ hs fun _ h r m => inv.storeRelay (ho r m _) h

theorem OfferInvariant.storeIndication {report : Bool} {i : IndicationIdx} {c : Option Code} {t : Time} {s : State}
    (ho : ∀ c t, ok (indicationOffer i c t)) (hs : Holding P ok s) : Holding P ok (storeIndication report i c t s) := by
  have stored : ∀ v, Holding P ok (s.setIndications v) := fun v =>
    inv.keeps_away [.indications] hs (by intro p; cases p <;> simp [Part.same]) rfl
  unfold Machine.storeIndication
  dsimp only
  split
  · exact inv.offer (ho c t) (stored _)
  · exact stored _

theorem OfferInvariant.indicationPass {t : Time} {s : State} (ho : ∀ i c t, ok (indicationOffer i c t))
    (hs : Holding P ok s) : Holding P ok (indicationPass t s) := by
  have evaluated : Holding P ok (Machine.settle (s.indicationsToEvaluate.foldl (evaluateIndication t) s)) := by
    refine inv.settle (List.foldlRecOn _ _ hs fun u h i _ => ?_)
    unfold evaluateIndication
    split
    · exact h
    · dsimp only
      split
      · exact h
      · exact inv.storeIndication (ho i) h
  exact inv.setEvaluator _ evaluated

theorem OfferInvariant.applyEvent {reason : UnprovenReason} {t : Time} {rs : List RelayIdx} {s : State}
    (hr : ∀ r ∈ rs, ∀ x, ok (relayOffer r x)) (hi : ∀ i c t, ok (indicationOffer i c t)) (hs : Holding P ok s) :
    Holding P ok (applyEvent reason t rs s) := by
  exact inv.indicationPass hi (List.foldlRecOn _ _ (inv.setEvaluator _ hs) fun u h r m => inv.storeRelay (hr r m _) h)

end Offers

end Sys2Proof.Proofs

namespace Sys2Proof.Proofs
open Sys2Proof Sys2Proof.Machine Sys2Proof.Laws

/-! ### The Report Queue's law -/

theorem reportLaw_reads : ReadsOnly State.ReportLaw [.report] := by
  intro s t same h
  have e : t.report = s.report := same .report (by simp)
  exact ⟨e ▸ h.bound, e ▸ h.distinct, e ▸ h.counts, e ▸ h.above, e ▸ h.below⟩

theorem reportLaw_of_report {s t : State} (h : s.ReportLaw) (e : t.report = s.report := by rfl) : t.ReportLaw :=
  reportLaw_reads s t (by simpa [Part.same] using e) h

/-- Coalescing keeps every record's subject. -/
theorem coalesce_subjects (valid : Bool) (o : Offer) (rs : List ChangeRecord) :
    (rs.map fun r => if r.subject = o.subject then coalesce valid o r else r).map ChangeRecord.subject =
      rs.map ChangeRecord.subject := by
  rw [List.map_map]
  refine List.map_congr_left fun r _ => ?_
  simp only [Function.comp_apply]
  split <;> simp [coalesce]

/-- Where no record of its subject waits and there is room, an offer becomes the newest record. -/
theorem takeOffer_appended {valid : Bool} {o : Offer} {q : ReportQueue} (new : ∀ r ∈ q.records, r.subject ≠ o.subject)
    (room : q.records.length < 256) :
    takeOffer valid o q =
      ({ q with records := q.records ++ [newRecord valid o], high := q.high || q.records.length + 1 = 193 }, .appended) := by
  have none : q.records.any (fun r => r.subject = o.subject) = false := by simpa using new
  simp [takeOffer, none, reportCapacity, room]

/-- What the Report Queue makes of an offer: it coalesces it, appends it, or refuses it (R98, R99, R101). -/
theorem takeOffer_cases (valid : Bool) (o : Offer) (q : ReportQueue) :
    ((∃ r ∈ q.records, r.subject = o.subject) ∧ takeOffer valid o q =
      ({ q with records := q.records.map fun r => if r.subject = o.subject then coalesce valid o r else r }, .coalesced)) ∨
    ((∀ r ∈ q.records, r.subject ≠ o.subject) ∧ q.records.length < 256 ∧ takeOffer valid o q =
      ({ q with records := q.records ++ [newRecord valid o], high := q.high || q.records.length + 1 = 193 }, .appended)) ∨
    ((∀ r ∈ q.records, r.subject ≠ o.subject) ∧ 256 ≤ q.records.length ∧ takeOffer valid o q =
      ({ q with refused := raise q.refused, resyncNeeded := true }, .refused)) := by
  by_cases waits : ∃ r ∈ q.records, r.subject = o.subject
  · exact .inl ⟨waits, by unfold takeOffer; rw [if_pos (by simpa using waits)]⟩
  have new : ∀ r ∈ q.records, r.subject ≠ o.subject := fun r hr e => waits ⟨r, hr, e⟩
  by_cases room : q.records.length < 256
  · exact .inr (.inl ⟨new, room, takeOffer_appended new room⟩)
  · have full : 256 ≤ q.records.length := Nat.le_of_not_lt room
    have none : q.records.any (fun r => r.subject = o.subject) = false := by simpa using new
    exact .inr (.inr ⟨new, full, by simp [takeOffer, none, reportCapacity, room]⟩)

/-- The Report Queue stays lawful as it takes an offer. -/
theorem takeOffer_reportLaw (valid : Bool) (o : Offer) {s : State} (h : s.ReportLaw) :
    (s.setReport (takeOffer valid o s.report).1).ReportLaw := by
  rcases takeOffer_cases valid o s.report with ⟨-, e⟩ | ⟨new, room, e⟩ | ⟨-, -, e⟩
  · rw [e]
    refine ⟨by simpa using h.bound, by
      simpa only [setReport_report, coalesce_subjects] using h.distinct, fun r hr => ?_,
      by simpa using h.above, by simpa using h.below⟩
    obtain ⟨x, hx, rfl⟩ := List.mem_map.1 hr
    have := h.counts x hx
    split
    · simp only [coalesce, raiseTo]; omega
    · exact this
  · rw [e]
    refine ⟨?_, ?_, fun r hr => ?_, fun n => ?_, fun n => ?_⟩ <;>
      simp only [setReport_report, List.length_append, List.length_singleton] at *
    · omega
    · rw [List.map_append, List.map_singleton]
      refine h.distinct.append (List.nodup_singleton _) ?_
      simpa [newRecord] using new
    · rcases List.mem_append.1 hr with m | m
      · exact h.counts r m
      · rw [List.mem_singleton.1 m]; simp [newRecord]
    · by_cases at193 : s.report.records.length + 1 = 193
      · simp [at193]
      · simp [h.above (by omega)]
    · have := h.below (by omega)
      simp [this]; omega
  · rw [e]
    exact ⟨h.bound, h.distinct, h.counts, h.above, h.below⟩

theorem reportLaw_invariant : OfferInvariant State.ReportLaw fun _ => True where
  reads := readsOnly_mono reportLaw_reads
  takes o s _ h := reportLaw_reads _ _ (by simp [Part.same, queueTakes_report]) (takeOffer_reportLaw s.time.valid o h)
  conditions _ _ := trivial

theorem reportLaw_holding {s : State} : Holding State.ReportLaw (fun _ => True) s ↔ s.ReportLaw := by
  simp [Holding]

theorem announce_reportLaw {os : List Offer} {es ls : List ConditionIdx} {s : State} (h : s.ReportLaw) :
    (announce os es ls s).ReportLaw :=
  (reportLaw_invariant.announce es ls (fun _ _ => trivial) (reportLaw_holding.2 h)).1

theorem changeCard_reportLaw {n : CardIdx} {t : Time} {c : CardContext} {s : State} (h : s.ReportLaw) :
    (changeCard n t c s).ReportLaw :=
  (reportLaw_invariant.changeCard (fun _ _ => trivial) (reportLaw_holding.2 h)).1

theorem applyEvent_reportLaw {reason : UnprovenReason} {t : Time} {rs : List RelayIdx} {s : State} (h : s.ReportLaw) :
    (applyEvent reason t rs s).ReportLaw :=
  (reportLaw_invariant.applyEvent (fun _ _ _ => trivial) (fun _ _ _ => trivial) (reportLaw_holding.2 h)).1

theorem takeFrame_reportLaw {n : CardIdx} {f : GoodFrame} {s : State} (h : s.ReportLaw) : (takeFrame n f s).ReportLaw := by
  have kept : ∀ b es (u : State), u.ReportLaw → (announceCard n f.arrival b es u).ReportLaw := fun b es u hu =>
    (reportLaw_invariant.announceCard es (fun _ _ => trivial) (reportLaw_holding.2 hu)).1
  have written : ∀ c, (putCard n c s).ReportLaw := fun c => reportLaw_reads.keeps (putCard_changesOnly n c s) h
  unfold takeFrame
  dsimp only
  split
  · exact kept _ _ _ (reportLaw_of_report h)
  split
  · exact kept _ _ _ (written _)
  · exact kept _ _ _ (written _)

theorem convert_reportLaw {e : QueueEntry} {s : State} (h : s.ReportLaw) : (convert e s).ReportLaw := by
  have written : (writeImage e s).ReportLaw :=
    reportLaw_of_report h
  unfold convert
  split
  · have begun := reportLaw_invariant.setEvaluator (beginPass (some e.card) (writeImage e s)).evaluator
      (reportLaw_holding.2 written)
    exact (reportLaw_invariant.indicationPass (fun _ _ _ => trivial)
      (reportLaw_invariant.relayPass (fun _ _ _ => trivial) begun)).1
  · exact written
  · exact written
  · exact reportLaw_reads.keeps (putCard_changesOnly e.card _ s) h

theorem swap_reportLaw {t : Time} {s : State} (h : s.ReportLaw) : (swap t s).ReportLaw := by
  have cards : ∀ old u, State.ReportLaw u → (carryCards old t u).ReportLaw := fun old u hu =>
    (reportLaw_invariant.makeKnown _ _ (fun _ _ => trivial) (reportLaw_holding.2 (reportLaw_reads.keeps
      (foldl_changesOnly (fun s n => putCard_changesOnly n _ s) (List.finRange 16) u) hu))).1
  have relays : ∀ old u, State.ReportLaw u → (carryRelays old t u).ReportLaw := fun old u hu =>
    (reportLaw_invariant.makeKnown _ _ (fun _ _ => trivial) (reportLaw_holding.2 (reportLaw_of_report hu (setRelays_report u _)))).1
  have indications : ∀ old u, State.ReportLaw u → (carryIndications old t u).ReportLaw := fun old u hu =>
    (reportLaw_invariant.offerAll (fun _ _ => trivial) (reportLaw_holding.2 (reportLaw_of_report hu (setIndications_report u _)))).1
  have finish : ∀ u, State.ReportLaw u → (finishSwap u).ReportLaw := fun u hu => by
    unfold finishSwap
    refine announce_reportLaw (reportLaw_of_report hu ?_)
    cases u.tables.checker <;> simp
  have banks : (swapBanks s).ReportLaw :=
    reportLaw_of_report h
  unfold swap
  exact finish _ (indications _ _ (relays _ _ (cards _ _ banks)))

theorem badFrame_reportLaw {port : Port} {s : State} (h : s.ReportLaw) : (badFrame port s).ReportLaw := by
  exact announce_reportLaw (reportLaw_of_report h)

theorem offerForward_reportLaw {f : DeskFrame} {s : State} (h : s.ReportLaw) : (offerForward f s).ReportLaw := by
  unfold offerForward
  split
  · exact reportLaw_of_report h
  · exact announce_reportLaw (reportLaw_of_report h)

/-- A removal leaves the Report Queue lawful: REPORT_HIGH falls exactly as its threshold is crossed (R102). -/
theorem removeReport_reportLaw {s : State} (h : s.ReportLaw) : (removeReport s).ReportLaw := by
  have removed : (s.setReport s.report.removed).ReportLaw := by
    have length : (s.report.records.drop reportFrameRecords).length = s.report.records.length - 16 := by
      simp [reportFrameRecords]
    refine ⟨?_, ?_, fun r hr => h.counts r (List.mem_of_mem_drop hr), fun n => ?_, fun n => ?_⟩ <;>
      simp only [setReport_report, ReportQueue.removed, length] at *
    · have := h.bound; omega
    · rw [List.map_drop]; exact List.Pairwise.drop h.distinct
    · rw [h.above (by omega)]; simp; omega
    · simp; omega
  have followed : (followLive [cReportHigh] (s.setReport s.report.removed)).ReportLaw :=
    reportLaw_reads.keeps (followLive_changesOnly _ _) removed
  unfold removeReport
  dsimp only
  split
  · have marked := takeOffer_reportLaw (followLive [cReportHigh] (s.setReport s.report.removed)).time.valid
      { subject := .resync, value := .resync
        time := (followLive [cReportHigh] (s.setReport s.report.removed)).time.counter } followed
    exact ⟨marked.bound, marked.distinct, marked.counts, marked.above, marked.below⟩
  · exact followed

theorem chooseUpstream_reportLaw {s : State} (h : s.ReportLaw) : (chooseUpstream s).ReportLaw := by
  have sent : ∀ (f : DeskFrame) (l : DeskLink) (u : State), u.ReportLaw → (beginUpstream f (u.setLink l)).ReportLaw :=
    fun f l u hu => ⟨hu.bound, hu.distinct, hu.counts, hu.above, hu.below⟩
  have built : ∀ turn : OwnTurn, (turn.atBuild s).ReportLaw := fun turn =>
    match turn with
    | .report => reportLaw_reads.keeps (atRemoval_changesOnly _ s) h
    | .urgentImage _ => reportLaw_reads.keeps (atBuild_changesOnly s) h
    | .regularImage => reportLaw_reads.keeps (atBuild_changesOnly s) h
  have took : ∀ (turn : OwnTurn) (u : State), u.ReportLaw → (takeOwnTurn turn u).ReportLaw := fun turn u hu =>
    match turn with
    | .report => removeReport_reportLaw hu
    | .urgentImage _ => reportLaw_of_report hu
    | .regularImage => reportLaw_of_report hu
  have own : ∀ turn, (grantOwn turn s).ReportLaw := fun turn => sent _ _ _ (took turn _ (built turn))
  unfold chooseUpstream chooseBelow
  split
  · exact sent _ _ s h
  split
  · exact h
  · exact own _
  · exact sent _ _ s h
  split
  · exact own _
  · exact sent _ _ s h

/-- The Report Queue after a reset is lawful. -/
theorem afterReset_reportLaw (t : Time) (valid : Bool) (s : State) : (s.setReport (.afterReset t valid)).ReportLaw := by
  constructor <;> simp [ReportQueue.afterReset, markerRestarted]

theorem restartAll_reportLaw (s : State) : (restartAll s).ReportLaw := by
  have desk : (restartBlocks s).ReportLaw :=
    reportLaw_of_report (afterReset_reportLaw s.time.counter s.time.valid s)
  rw [restartAll_eq]
  unfold restartConditions
  exact (reportLaw_invariant.settle (reportLaw_invariant.riseAll _ (reportLaw_holding.2
    (reportLaw_of_report desk)))).1

theorem actConditionEnable_reportLaw {q : Request} {s : State} (h : s.ReportLaw) : (actConditionEnable q s).ReportLaw := by
  have answered : ∀ st b (u : State), u.ReportLaw → (answer q st b u).ReportLaw := fun st b u hu =>
    reportLaw_reads.keeps (answer_changesOnly q st b u) hu
  have found : (foundAt passEnd s).ReportLaw := reportLaw_reads.keeps (foundAt_changesOnly _ s) h
  unfold actConditionEnable
  dsimp only
  split
  · exact answered _ _ _ h
  refine answered _ _ _ (reportLaw_invariant.settle (List.foldlRecOn _ _ (reportLaw_holding.2 ?_) fun u hu n _ => ?_)).1
  · exact reportLaw_of_report found
  · unfold enableCondition
    split
    · exact reportLaw_invariant.takeFreely (reportLaw_invariant.rise n hu)
    split
    · exact reportLaw_holding.2 (reportLaw_of_report hu.1)
    · exact hu

theorem actConditionAck_reportLaw {q : Request} {s : State} (h : s.ReportLaw) : (actConditionAck q s).ReportLaw := by
  have answered : ∀ st b (u : State), u.ReportLaw → (answer q st b u).ReportLaw := fun st b u hu =>
    reportLaw_reads.keeps (answer_changesOnly q st b u) hu
  have found : (foundAt passEnd s).ReportLaw := reportLaw_reads.keeps (foundAt_changesOnly _ s) h
  unfold actConditionAck
  dsimp only
  split
  · exact answered _ _ _ h
  refine answered _ _ _ (reportLaw_invariant.settle (List.foldlRecOn _ _ (reportLaw_holding.2 found) fun u hu n _ => ?_)).1
  unfold ackCondition
  dsimp only
  have cleared : (u.setLatched n false).ReportLaw :=
    reportLaw_of_report hu.1
  split
  · split
    · exact reportLaw_invariant.takeFreely (reportLaw_invariant.rise n (reportLaw_holding.2 cleared))
    · exact reportLaw_holding.2 cleared
  · exact hu

theorem actCardControl_reportLaw {action : CardIdx → State → State}
    (kept : ∀ (n : CardIdx) (s : State), s.ReportLaw → (action n s).ReportLaw) {q : Request} {s : State} (h : s.ReportLaw) :
    (actCardControl action q s).ReportLaw := by
  unfold actCardControl
  split
  · exact reportLaw_reads.keeps (answer_changesOnly q _ _ _) (kept _ s h)
  · exact reportLaw_reads.keeps (answer_changesOnly q _ _ s) h

/-- Every command keeps the Report Queue lawful. -/
theorem exec_reportLaw (c : Instr) (s t : State) (h : exec c s = .next t) (hs : s.ReportLaw) : t.ReportLaw := by
  by_cases written : Part.report ∈ writes c
  case neg => exact reportLaw_reads.keeps (exec_changesOnly c s t h) hs (by simpa using written)
  have changed : ∀ n time after, (changeCard n time after s).ReportLaw := fun _ _ _ => changeCard_reportLaw hs
  have popped : ∀ n, (popInbox n s).ReportLaw := fun n => reportLaw_of_report hs
  cases c with
  | powerOn straps =>
    cases h
    exact reportLaw_of_report (afterReset_reportLaw 0 false s)
  | supervisorFrameTaken n =>
    injection h with h; subst h
    split
    · exact hs
    split
    · exact takeFrame_reportLaw (popped n)
    · exact hs
  | closeExpiry n =>
    injection h with h; subst h
    split
    · split
      · exact changed _ _ _
      · exact hs
    · exact hs
  | cardCarrierFall n =>
    injection h with h; subst h
    split
    · exact hs
    split
    · exact changeCard_reportLaw (popped n)
    · exact hs
  | cardCarrierRise n =>
    injection h with h; subst h
    split
    · exact hs
    split
    · exact changeCard_reportLaw (popped n)
    · exact hs
  | conversionStart =>
    injection h with h; subst h
    split
    · split
      · exact convert_reportLaw (reportLaw_of_report hs)
      · exact hs
    · exact hs
  | cardOutEvent =>
    injection h with h; subst h
    split
    · exact hs
    split
    · exact applyEvent_reportLaw (reportLaw_of_report hs)
    · exact hs
  | knownInputsEvent =>
    injection h with h; subst h
    split
    · exact hs
    split
    · exact applyEvent_reportLaw (reportLaw_of_report hs)
    · exact hs
  | commitSwapComplete =>
    injection h with h; subst h
    split
    · exact reportLaw_reads.keeps (handOn_changesOnly _) (swap_reportLaw hs)
    · exact hs
  | checkRefused =>
    injection h with h; subst h
    split
    · split
      · exact announce_reportLaw (reportLaw_of_report hs (by simp))
      · exact hs
    · exact hs
  | upstreamTxDone =>
    injection h with h; subst h
    exact chooseUpstream_reportLaw (reportLaw_of_report hs)
  | upstreamFrameReceived chars =>
    injection h with h; subst h
    split
    · exact reportLaw_reads.keeps (routeUpstream_changesOnly _ s) hs
    · exact badFrame_reportLaw hs
    · exact hs
  | deskRxIdleTimeout port chars =>
    injection h with h; subst h
    split
    · exact badFrame_reportLaw hs
    · exact badFrame_reportLaw hs
    · exact hs
    · exact hs
    · exact hs
  | downstreamFrameReceived chars =>
    injection h with h; subst h
    split
    · exact offerForward_reportLaw hs
    · exact badFrame_reportLaw hs
    · exact hs
  | restart =>
    cases h
    exact serve_keeps reportLaw_reads (by decide)
      (fun q u _ => actRestart_keeps reportLaw_reads (restartAll_reportLaw u)) s hs
  | readmit => cases h; exact serve_keeps reportLaw_reads (by decide) (fun _ _ => actCardControl_reportLaw fun _ _ => changeCard_reportLaw) s hs
  | clearProving => cases h; exact serve_keeps reportLaw_reads (by decide) (fun _ _ => actCardControl_reportLaw fun _ _ => changeCard_reportLaw) s hs
  | clearCounters => cases h; exact serve_keeps reportLaw_reads (by decide) (fun _ _ => actCardControl_reportLaw fun _ _ => changeCard_reportLaw) s hs
  | timeSet =>
    cases h
    refine serve_keeps reportLaw_reads (by decide) (fun q u hu => ?_) s hs
    exact reportLaw_reads.keeps (answer_changesOnly q _ _ _) (announce_reportLaw (reportLaw_of_report hu))
  | conditionEnable => cases h; exact serve_keeps reportLaw_reads (by decide) (fun _ _ => actConditionEnable_reportLaw) s hs
  | conditionAck => cases h; exact serve_keeps reportLaw_reads (by decide) (fun _ _ => actConditionAck_reportLaw) s hs
  | _ => simp [writes] at written

/-! ### The Card Frame Queue's law -/

theorem frameQueueLaw_reads : ReadsOnly State.FrameQueueLaw [.frameQueue] := by
  intro s t same h
  have e : t.frameQueue = s.frameQueue := same .frameQueue (by simp)
  exact ⟨e ▸ h.bound, e ▸ h.ownCard⟩

theorem frameQueueLaw_of_nil {s : State} (h : s.frameQueue = []) : s.FrameQueueLaw := by
  constructor <;> simp [h]

/-- A frame of another card than its lane's is not offered to the queue (R21). -/
theorem card_of_offered {n : CardIdx} {e : CardEntry} {f : GoodFrame} {c : CardContext}
    (h : (judgeFrame n e f c).2 = true) : f.frame.card = n := by
  unfold judgeFrame at h
  split at h
  · exact nomatch h
  split at h
  · exact nomatch h
  · next card => exact not_not.1 card

theorem takeFrame_frameQueueLaw {n : CardIdx} {f : GoodFrame} {s : State} (hs : s.FrameQueueLaw) :
    (takeFrame n f s).FrameQueueLaw := by
  have kept : ∀ b es (u : State), u.FrameQueueLaw → (announceCard n f.arrival b es u).FrameQueueLaw := fun b es u hu =>
    frameQueueLaw_reads.keeps (announceCard_changesOnly n f.arrival b es u) hu
  have written : ∀ c, (putCard n c s).FrameQueueLaw := fun c => frameQueueLaw_reads.keeps (putCard_changesOnly n c s) hs
  unfold takeFrame
  dsimp only
  split
  next room =>
    obtain ⟨offered, room⟩ := Bool.and_eq_true_iff.1 room
    have room : s.frameQueue.length < 8 := of_decide_eq_true room
    refine kept _ _ _ ⟨by simp; omega, fun e he => ?_⟩
    rcases List.mem_append.1 he with m | m
    · exact hs.ownCard e m
    · rw [List.mem_singleton.1 m]; exact card_of_offered offered
  next =>
    split
    · exact kept _ _ _ (written _)
    · exact kept _ _ _ (written _)

/-- Every command keeps the Card Frame Queue lawful. -/
theorem exec_frameQueueLaw (c : Instr) (s t : State) (h : exec c s = .next t) (hs : s.FrameQueueLaw) :
    t.FrameQueueLaw := by
  by_cases written : Part.frameQueue ∈ writes c
  case neg => exact frameQueueLaw_reads.keeps (exec_changesOnly c s t h) hs (by simpa using written)
  cases c with
  | powerOn straps => cases h; exact frameQueueLaw_of_nil rfl
  | supervisorFrameTaken n =>
    injection h with h; subst h
    split
    · exact hs
    split
    · exact takeFrame_frameQueueLaw ⟨hs.bound, hs.ownCard⟩
    · exact hs
  | conversionStart =>
    injection h with h; subst h
    split
    · split
      next e rest queue =>
        refine frameQueueLaw_reads.keeps (convert_changesOnly e _) ⟨?_, fun x hx => hs.ownCard x ?_⟩
        · have := hs.bound; rw [queue, List.length_cons] at this; exact Nat.le_of_succ_le this
        · rw [queue]; exact List.mem_cons_of_mem e hx
      next => exact hs
    · exact hs
  | restart =>
    cases h
    exact serve_keeps frameQueueLaw_reads (by decide) (fun q u _ => actRestart_keeps frameQueueLaw_reads
      (frameQueueLaw_of_nil (restartAll_same u .frameQueue (by decide)))) s hs
  | _ => simp [writes, announceParts] at written

end Sys2Proof.Proofs

namespace Sys2Proof.Proofs
open Sys2Proof Sys2Proof.Machine Sys2Proof.Laws

/-! ### The Image Reader's law -/

theorem readerLaw_reads : ReadsOnly State.ReaderLaw [.reader] := by
  intro s t same h
  have e : t.reader = s.reader := same .reader (by simp)
  exact ⟨e ▸ h.interval, e ▸ h.timer, e ▸ h.stopped, e ▸ h.running, e ▸ h.aborting⟩

theorem readerLaw_of_reader {s t : State} (h : s.ReaderLaw) (e : t.reader = s.reader := by rfl) : t.ReaderLaw :=
  readerLaw_reads s t (by simpa [Part.same] using e) h

/-- A train that is put in flight stands within its span. -/
theorem setTrain_readerLaw {train : Train} {s : State} (hs : s.ReaderLaw) (running : ∀ w, train = .running w → w.InSpan)
    (aborting : ∀ w, train = .aborting w → w.InSpan) : (setTrain train s).ReaderLaw :=
  ⟨hs.interval, hs.timer, hs.stopped, running, aborting⟩

/-- A train that goes on after a frame still stands within its span (R120). -/
theorem advanced_inSpan {w w' : TrainWork} (h : w.InSpan) (on : w.advanced = .running w') : w'.InSpan := by
  unfold TrainWork.advanced at on
  split at on
  · exact nomatch on
  next more =>
    injection on with on
    subst on
    simp only [TrainWork.isLast, decide_eq_true_eq, not_le] at more
    exact ⟨Nat.le_trans h.1 (Nat.le_add_right _ _), more, h.2.2⟩

theorem sendTrainFrame_readerLaw {w : TrainWork} {place : ResponseEntry → State → State} {s : State}
    (placed : ∀ (e : ResponseEntry) (s : State), s.changesOnly (place e s) [.link]) (h : w.InSpan) (hs : s.ReaderLaw) :
    (sendTrainFrame w place s).ReaderLaw := by
  have built : (atBuild s).ReaderLaw := readerLaw_of_reader hs (by simp)
  refine setTrain_readerLaw (readerLaw_reads.keeps (placed _ _) built) (fun w' on => advanced_inSpan h on) fun w' on => ?_
  unfold TrainWork.advanced at on
  split at on <;> exact nomatch on

theorem takeOwnTurn_readerLaw {turn : OwnTurn} {s : State} (hs : s.ReaderLaw) : (takeOwnTurn turn s).ReaderLaw := by
  cases turn with
  | urgentImage b => exact ⟨hs.interval, hs.timer, hs.stopped, hs.running, hs.aborting⟩
  | regularImage => exact ⟨hs.interval, hs.timer, fun _ => rfl, hs.running, hs.aborting⟩
  | report =>
    show (removeReport s).ReaderLaw
    unfold removeReport
    dsimp only
    split
    · exact ⟨hs.interval, hs.timer, hs.stopped, hs.running, hs.aborting⟩
    · exact readerLaw_of_reader hs

theorem chooseUpstream_readerLaw {s : State} (hs : s.ReaderLaw) : (chooseUpstream s).ReaderLaw := by
  have own : ∀ turn, (grantOwn turn s).ReaderLaw := fun turn => by
    have built : (turn.atBuild s).ReaderLaw := by
      cases turn with
      | report => exact readerLaw_of_reader hs (by simp [OwnTurn.atBuild])
      | urgentImage b => exact readerLaw_of_reader hs (by simp [OwnTurn.atBuild])
      | regularImage => exact readerLaw_of_reader hs (by simp [OwnTurn.atBuild])
    exact readerLaw_of_reader (takeOwnTurn_readerLaw (turn := turn) built)
  unfold chooseUpstream chooseBelow
  split
  · exact readerLaw_of_reader hs
  split
  · exact hs
  · exact own _
  · exact readerLaw_of_reader hs
  split
  · exact own _
  · exact readerLaw_of_reader hs

/-- REFRESH CONTROL clamps the interval and starts or stops the timer (R117). -/
theorem actRefreshControl_readerLaw {q : Request} {s : State} (hs : s.ReaderLaw) : (actRefreshControl q s).ReaderLaw := by
  unfold actRefreshControl
  dsimp only
  split
  · exact readerLaw_of_reader hs (by simp)
  · refine readerLaw_reads.keeps (answer_changesOnly q _ _ _) ?_
    unfold ImageReader.control
    have clamped : 10 ≤ clampInterval (nat16At q.payload 2) ∧ clampInterval (nat16At q.payload 2) ≤ 2000 := by
      unfold clampInterval; omega
    split
    · exact ⟨clamped, rfl, nofun, hs.running, hs.aborting⟩
    · exact ⟨clamped, rfl, fun _ => rfl, hs.running, hs.aborting⟩

/-- A SNAPSHOT that is accepted begins within its span (R118). -/
theorem actSnapshot_readerLaw {q : Request} {s : State} (hs : s.ReaderLaw) : (actSnapshot q s).ReaderLaw := by
  have turned : ∀ st b, (answer q st b s).ReaderLaw := fun st b => readerLaw_of_reader hs (by simp)
  unfold actSnapshot beginTrain
  dsimp only
  split
  · exact turned _ _
  split
  · exact turned _ _
  split
  · exact turned _ _
  next kind _ named =>
    split
    · exact turned _ _
    next inside =>
      split
      · refine sendTrainFrame_readerLaw (answerEntry_changesOnly q) ?_ hs
        simp only [Bool.or_eq_true, decide_eq_true_eq, not_or] at named
        have count := named.2
        refine ⟨Nat.le_refl _, ?_, ?_⟩ <;> dsimp only <;> omega
      · exact hs

theorem abortTrain_readerLaw {s : State} (hs : s.ReaderLaw) : (abortTrain s).ReaderLaw := by
  unfold abortTrain
  split
  next w running =>
    exact setTrain_readerLaw hs nofun fun w' e => by injection e with e; exact e ▸ hs.running w running
  next => exact hs

/-- Every command keeps the Image Reader lawful. -/
theorem exec_readerLaw (c : Instr) (s t : State) (h : exec c s = .next t) (hs : s.ReaderLaw) : t.ReaderLaw := by
  by_cases written : Part.reader ∈ writes c
  case neg => exact readerLaw_reads.keeps (exec_changesOnly c s t h) hs (by simpa using written)
  cases c with
  | powerOn straps => cases h; exact ⟨(by decide : 10 ≤ 100 ∧ 100 ≤ 2000), rfl, nofun, nofun, nofun⟩
  | upstreamTxDone =>
    injection h with h; subst h
    exact chooseUpstream_readerLaw (readerLaw_of_reader hs)
  | refreshExpiry =>
    injection h with h; subst h
    split
    next e running =>
      split
      · have enabled : s.reader.enable = true := by rw [← hs.timer, running]; rfl
        exact ⟨hs.interval, enabled.symm, fun off => absurd enabled (by simpa using off), hs.running, hs.aborting⟩
      · exact hs
    next => exact hs
  | trainFrameBuild =>
    injection h with h; subst h
    split
    next w running =>
      split
      · exact sendTrainFrame_readerLaw placeEntry_changesOnly (hs.running w running) hs
      · exact hs
    next => exact hs
  | abortedFrameBuild =>
    injection h with h; subst h
    split
    · split
      · exact setTrain_readerLaw (readerLaw_of_reader hs) nofun nofun
      · exact hs
    · exact hs
  | restart =>
    cases h
    refine serve_keeps readerLaw_reads (by decide) (fun q u hu => ?_) s hs
    have blocks : (restartBlocks u).ReaderLaw := ⟨hu.interval, hu.timer, hu.stopped, nofun, nofun⟩
    exact actRestart_keeps readerLaw_reads (readerLaw_of_reader blocks (restartAll_same u .reader (by decide)))
  | abort =>
    cases h
    refine serve_keeps readerLaw_reads (by decide) (fun q u hu => ?_) s hs
    refine readerLaw_of_reader (abortTrain_readerLaw hu) ?_
    unfold actAbort abortCheck
    split <;> simp
  | snapshot => cases h; exact serve_keeps readerLaw_reads (by decide) (fun _ _ => actSnapshot_readerLaw) s hs
  | refreshControl => cases h; exact serve_keeps readerLaw_reads (by decide) (fun _ _ => actRefreshControl_readerLaw) s hs
  | timeSet =>
    cases h
    refine serve_keeps readerLaw_reads (by decide) (fun q u hu => ?_) s hs
    have moved : (u.setReader { u.reader with
        nextExpiry := u.reader.nextExpiry.map (· + (timeOf q - u.time.counter)) }).ReaderLaw :=
      ⟨hu.interval, by simpa using hu.timer, hu.stopped, hu.running, hu.aborting⟩
    exact readerLaw_of_reader moved (by simp [actTimeSet, loadTime])
  | _ => simp [writes, announceParts] at written

/-! ### The law of the card event in flight -/

theorem evaluatorLaw_reads : ReadsOnly State.EvaluatorLaw [.evaluator, .engine] := by
  intro s t same h
  have e : t.evaluator = s.evaluator := same .evaluator (by simp)
  have g : t.engine = s.engine := same .engine (by simp)
  simpa only [State.EvaluatorLaw, State.swapping, e, g] using h

/-- With no event in flight the law holds. -/
theorem evaluatorLaw_of_none {s : State} (h : s.evaluator.inFlight = false) : s.EvaluatorLaw :=
  fun f => absurd f (by simp [h])

/-- The law stands where the events, the flag and the engine do, whatever becomes of the changed set and the pass. -/
theorem evaluatorLaw_of_events {s t : State} (hs : s.EvaluatorLaw) (events : t.evaluator.events = s.evaluator.events)
    (flag : t.evaluator.inFlight = s.evaluator.inFlight) (engine : t.engine = s.engine) : t.EvaluatorLaw := by
  simpa only [State.EvaluatorLaw, State.swapping, events, flag, engine] using hs

/-- With work in flight no event is taken at once: an event is in flight only where the evaluators were free (R56). -/
theorem evaluatorFree_iff (s : State) : s.evaluatorFree = true ↔ s.EvaluatorsFree := by
  unfold State.evaluatorFree State.EvaluatorsFree State.swapping
  split
  next q e => simp [e]
  next t e => simp [e]
  next unlike_pass unlike_swap =>
    simp only [List.isEmpty_iff]
    exact ⟨fun h => ⟨fun q e => unlike_pass q e, trivial, h⟩, fun h => h.2.2⟩

theorem announceCard_evaluatorLaw {n : CardIdx} {t : Time} {b : CardContext} {es : List ConditionIdx} {s : State}
    (hs : s.EvaluatorLaw) : (announceCard n t b es s).EvaluatorLaw := by
  intro flag
  simp only [announceCard_evaluator, announceCard_engine, State.swapping, Bool.or_eq_true, Bool.and_eq_true,
    Bool.not_eq_true', List.isEmpty_eq_false_iff] at flag ⊢
  rcases flag with before | ⟨free, sent⟩
  · obtain ⟨events, pass, swap⟩ := hs before
    exact ⟨by simp [events], pass, swap⟩
  · obtain ⟨pass, swap, -⟩ := (evaluatorFree_iff s).1 free
    exact ⟨fun e => sent (List.append_eq_nil_iff.1 e).2, pass, swap⟩

theorem changeCard_evaluatorLaw {n : CardIdx} {t : Time} {c : CardContext} {s : State} (hs : s.EvaluatorLaw) :
    (changeCard n t c s).EvaluatorLaw :=
  announceCard_evaluatorLaw (evaluatorLaw_reads.keeps (putCard_changesOnly n c s) hs)

theorem takeFrame_evaluatorLaw {n : CardIdx} {f : GoodFrame} {s : State} (hs : s.EvaluatorLaw) :
    (takeFrame n f s).EvaluatorLaw := by
  unfold takeFrame
  dsimp only
  split
  · exact announceCard_evaluatorLaw (evaluatorLaw_of_events hs rfl rfl rfl)
  split
  · exact announceCard_evaluatorLaw (evaluatorLaw_of_events hs rfl rfl rfl)
  · exact announceCard_evaluatorLaw (evaluatorLaw_of_events hs rfl rfl rfl)

/-- A relay's new record leaves the events and the flag of the one in flight. -/
theorem storeRelay_events (r : RelayIdx) (x : RelayRuntime) (s : State) :
    (storeRelay r x s).evaluator.events = s.evaluator.events ∧
      (storeRelay r x s).evaluator.inFlight = s.evaluator.inFlight := by
  rw [storeRelay_evaluator]; split <;> exact ⟨rfl, rfl⟩

theorem foldl_stores_events {f : State → RelayIdx → State} (stores : ∀ s r, ∃ x, f s r = storeRelay r x s)
    (rs : List RelayIdx) (s : State) :
    (rs.foldl f s).evaluator.events = s.evaluator.events ∧
      (rs.foldl f s).evaluator.inFlight = s.evaluator.inFlight := by
  induction rs generalizing s with
  | nil => exact ⟨rfl, rfl⟩
  | cons r rs ih =>
    obtain ⟨x, stored⟩ := stores s r
    obtain ⟨events, flag⟩ := storeRelay_events r x s
    obtain ⟨events', flag'⟩ := ih (f s r)
    rw [stored] at events' flag'
    rw [List.foldl_cons, stored]
    exact ⟨events'.trans events, flag'.trans flag⟩

theorem relayPass_events (n : CardIdx) (t : Time) (s : State) :
    (relayPass n t s).evaluator.events = s.evaluator.events ∧
      (relayPass n t s).evaluator.inFlight = s.evaluator.inFlight := by
  have stores : ∀ u r, ∃ x, advanceRelay n t u r = storeRelay r x u := fun u r => by
    unfold advanceRelay; exact ⟨_, rfl⟩
  unfold relayPass
  exact foldl_stores_events stores _ s

theorem applyEvent_inFlight (reason : UnprovenReason) (t : Time) (rs : List RelayIdx) (s : State) :
    (applyEvent reason t rs s).evaluator.inFlight = s.evaluator.inFlight := by
  unfold applyEvent
  rw [indicationPass_evaluator]
  exact (foldl_stores_events (fun _ _ => ⟨_, rfl⟩) rs (beginPass none s)).2

theorem convert_inFlight (e : QueueEntry) (s : State) : (convert e s).evaluator.inFlight = s.evaluator.inFlight := by
  unfold convert
  split
  · rw [indicationPass_evaluator]
    have passed := (relayPass_events e.card e.arrival (beginPass (some e.card) (writeImage e s))).2
    dsimp only
    rw [passed, beginPass_evaluator]
    rfl
  · rfl
  · rfl
  · rfl

theorem actCardControl_evaluatorLaw {action : CardIdx → State → State}
    (kept : ∀ (n : CardIdx) (s : State), s.EvaluatorLaw → (action n s).EvaluatorLaw) {q : Request} {s : State}
    (h : s.EvaluatorLaw) : (actCardControl action q s).EvaluatorLaw := by
  unfold actCardControl
  split
  · exact evaluatorLaw_reads.keeps (answer_changesOnly q _ _ _) (kept _ s h)
  · exact evaluatorLaw_reads.keeps (answer_changesOnly q _ _ s) h

theorem foundAt_events (place : Nat) (s : State) :
    (foundAt place s).evaluator.events = s.evaluator.events ∧
      (foundAt place s).evaluator.inFlight = s.evaluator.inFlight := by
  unfold foundAt; split <;> exact ⟨rfl, rfl⟩

theorem builtAt_events (place : Nat) (s : State) :
    (builtAt place s).evaluator.events = s.evaluator.events ∧
      (builtAt place s).evaluator.inFlight = s.evaluator.inFlight := by
  unfold builtAt
  split
  · exact foundAt_events place s
  · exact ⟨rfl, rfl⟩

theorem builtAt_evaluatorLaw {place : Nat} {s : State} (hs : s.EvaluatorLaw) : (builtAt place s).EvaluatorLaw := by
  obtain ⟨events, flag⟩ := builtAt_events place s
  exact evaluatorLaw_of_events hs events flag (by simp)

theorem foundAt_evaluatorLaw {place : Nat} {s : State} (hs : s.EvaluatorLaw) : (foundAt place s).EvaluatorLaw := by
  obtain ⟨events, flag⟩ := foundAt_events place s
  exact evaluatorLaw_of_events hs events flag (by simp)

theorem sendTrainFrame_evaluatorLaw {w : TrainWork} {place : ResponseEntry → State → State} {s : State}
    (placed : ∀ (e : ResponseEntry) (s : State), s.changesOnly (place e s) [.link]) (hs : s.EvaluatorLaw) :
    (sendTrainFrame w place s).EvaluatorLaw :=
  evaluatorLaw_reads.keeps (setReader_changesOnly _ _)
    (evaluatorLaw_reads.keeps (placed _ _) (builtAt_evaluatorLaw hs))

theorem chooseUpstream_evaluatorLaw {s : State} (hs : s.EvaluatorLaw) : (chooseUpstream s).EvaluatorLaw := by
  have sent : ∀ (f : DeskFrame) (l : DeskLink) (u : State), u.EvaluatorLaw → (beginUpstream f (u.setLink l)).EvaluatorLaw :=
    fun f l u hu => hu
  have built : ∀ turn : OwnTurn, (turn.atBuild s).EvaluatorLaw := fun turn => by
    cases turn with
    | report =>
      show (atRemoval _ s).EvaluatorLaw
      unfold atRemoval
      split
      · exact foundAt_evaluatorLaw hs
      · exact hs
    | urgentImage b => exact builtAt_evaluatorLaw hs
    | regularImage => exact builtAt_evaluatorLaw hs
  have took : ∀ (turn : OwnTurn) (u : State), u.EvaluatorLaw → (takeOwnTurn turn u).EvaluatorLaw := fun turn u hu => by
    cases turn with
    | report => exact evaluatorLaw_reads.keeps (removeReport_changesOnly u) hu
    | urgentImage b => exact hu
    | regularImage => exact hu
  have own : ∀ turn, (grantOwn turn s).EvaluatorLaw := fun turn => sent _ _ _ (took turn _ (built turn))
  unfold chooseUpstream chooseBelow
  split
  · exact sent _ _ s hs
  split
  · exact hs
  · exact own _
  · exact sent _ _ s hs
  split
  · exact own _
  · exact sent _ _ s hs

/-- Every command keeps the law of the card event in flight. -/
theorem exec_evaluatorLaw (c : Instr) (s t : State) (h : exec c s = .next t) (hs : s.EvaluatorLaw) : t.EvaluatorLaw := by
  by_cases written : Part.evaluator ∈ writes c ∨ Part.engine ∈ writes c
  case neg => exact evaluatorLaw_reads.keeps (exec_changesOnly c s t h) hs (by simpa using written)
  have popped : ∀ n, (popInbox n s).EvaluatorLaw := fun n => hs
  have controlled : ∀ {mine : Request → Bool} (after : CardIdx → State → CardContext),
      (serve mine (actCardControl fun n s => changeCard n s.time.counter (after n s) s) s).EvaluatorLaw :=
    fun after => serve_keeps evaluatorLaw_reads (by decide)
      (fun _ _ => actCardControl_evaluatorLaw fun _ _ => changeCard_evaluatorLaw) s hs
  cases c with
  | powerOn straps => cases h; exact evaluatorLaw_of_none rfl
  | supervisorFrameTaken n =>
    injection h with h; subst h
    split
    · exact hs
    split
    · exact takeFrame_evaluatorLaw (popped n)
    · exact hs
  | closeExpiry n =>
    injection h with h; subst h
    split
    · split
      · exact changeCard_evaluatorLaw hs
      · exact hs
    · exact hs
  | cardCarrierFall n =>
    injection h with h; subst h
    split
    · exact hs
    split
    · exact changeCard_evaluatorLaw (popped n)
    · exact hs
  | cardCarrierRise n =>
    injection h with h; subst h
    split
    · exact hs
    split
    · exact changeCard_evaluatorLaw (popped n)
    · exact hs
  | conversionStart =>
    injection h with h; subst h
    split
    next free =>
      have idle : s.evaluator.inFlight = false := by
        simp only [State.engineFree, Bool.and_eq_true, Bool.not_eq_true'] at free
        exact free.1.2
      split
      · exact evaluatorLaw_of_none ((convert_inFlight _ _).trans idle)
      · exact hs
    next => exact hs
  | conversionComplete =>
    injection h with h; subst h
    split
    next q converting =>
      have noFlight : s.evaluator.inFlight = false := by
        by_contra flag
        exact (hs (by simpa using flag)).2.1 q converting
      split
      · exact evaluatorLaw_of_none noFlight
      · exact hs
    next => exact fun flag => ⟨(hs flag).1, nofun, rfl⟩
    next => exact hs
    next => exact hs
  | cardOutEvent =>
    injection h with h; subst h
    split
    · exact hs
    split
    · exact evaluatorLaw_of_none ((applyEvent_inFlight _ _ _ _).trans rfl)
    · exact hs
  | knownInputsEvent =>
    injection h with h; subst h
    split
    · exact hs
    split
    · exact evaluatorLaw_of_none ((applyEvent_inFlight _ _ _ _).trans rfl)
    · exact hs
  | commitSwapBegin =>
    injection h with h; subst h
    split
    next free =>
      simp only [State.engineFree, Bool.and_eq_true, Bool.not_eq_true'] at free
      exact evaluatorLaw_of_none free.1.2
    next => exact hs
  | commitSwapComplete =>
    injection h with h; subst h
    split
    next t swapping =>
      have noFlight : s.evaluator.inFlight = false := by
        by_contra flag
        have := (hs (by simpa using flag)).2.2
        simp [State.swapping, swapping] at this
      have same : (handOn (swap t s)).evaluator = s.evaluator :=
        changesOnly_then (swap_changesOnly t s) (handOn_changesOnly _) (by decide) .evaluator (by decide)
      exact evaluatorLaw_of_none (by rw [same]; exact noFlight)
    next => exact hs
  | checkPass =>
    injection h with h; subst h
    split
    · split
      · exact hs
      · exact hs
    · exact hs
  | upstreamTxDone => injection h with h; subst h; exact chooseUpstream_evaluatorLaw hs
  | trainFrameBuild =>
    injection h with h; subst h
    split
    · split
      · exact sendTrainFrame_evaluatorLaw placeEntry_changesOnly hs
      · exact hs
    · exact hs
  | restart =>
    cases h
    refine serve_keeps evaluatorLaw_reads (by decide) (fun q u _ => ?_) s hs
    have reset : (restartAll u).evaluator = (restartBlocks u).evaluator := restartAll_same u .evaluator (by decide)
    exact actRestart_keeps evaluatorLaw_reads (evaluatorLaw_of_none (by rw [reset]; rfl))
  | readmit => cases h; exact controlled _
  | clearProving => cases h; exact controlled fun n s => s.cards[n].clearProving
  | clearCounters => cases h; exact controlled fun n s => s.cards[n].clearCounters
  | snapshot =>
    cases h
    refine serve_keeps evaluatorLaw_reads (by decide) (fun q u hu => ?_) s hs
    have turned : ∀ st b, (answer q st b u).EvaluatorLaw := fun st b =>
      evaluatorLaw_reads.keeps (answer_changesOnly q st b u) hu
    unfold actSnapshot beginTrain
    dsimp only
    split
    · exact turned _ _
    split
    · exact turned _ _
    split
    · exact turned _ _
    split
    · exact turned _ _
    split
    · exact sendTrainFrame_evaluatorLaw (answerEntry_changesOnly q) hu
    · exact hu
  | statusRead =>
    cases h
    refine serve_keeps evaluatorLaw_reads (by decide) (fun q u hu => ?_) s hs
    have built : (atStatus u).EvaluatorLaw := by
      unfold atStatus
      split
      · exact builtAt_evaluatorLaw hu
      · exact hu
    exact evaluatorLaw_reads.keeps (answer_changesOnly q _ _ _) built
  | conditionEnable =>
    cases h
    refine serve_keeps evaluatorLaw_reads (by decide) (fun q u hu => ?_) s hs
    unfold actConditionEnable
    dsimp only
    split
    · exact evaluatorLaw_reads.keeps (answer_changesOnly q _ _ u) hu
    · exact evaluatorLaw_reads.keeps (answer_changesOnly q _ _ _)
        (evaluatorLaw_reads.keeps (replaceEnables_changesOnly _ _) (foundAt_evaluatorLaw hu))
  | conditionAck =>
    cases h
    refine serve_keeps evaluatorLaw_reads (by decide) (fun q u hu => ?_) s hs
    unfold actConditionAck
    dsimp only
    split
    · exact evaluatorLaw_reads.keeps (answer_changesOnly q _ _ u) hu
    · exact evaluatorLaw_reads.keeps (answer_changesOnly q _ _ _)
        (evaluatorLaw_reads.keeps (acknowledge_changesOnly _ _) (foundAt_evaluatorLaw hu))
  | _ => simp [writes, announceParts] at written

end Sys2Proof.Proofs

namespace Sys2Proof.Proofs
open Sys2Proof Sys2Proof.Machine Sys2Proof.Laws

/-! ### The desk link's law -/

/-- The desk link's law while an owner acts: `owed` promises are counted beside those of the requests that wait. -/
structure LinkOwes (l : DeskLink) (owed : Nat) : Prop where
  downward : l.downward.length ≤ 4
  forward : l.forward.length ≤ 4
  responses : l.responses.length + l.promises ≤ 4
  promises : l.promises = l.requests.countP Request.promised + owed
  broadcasts : ∀ q ∈ l.requests, q.broadcast = true → q.promised = false
  ownNode : l.ownNode.val ≤ 62
  range : ∀ a b, l.range = some (a, b) → l.ownNode < a ∧ a ≤ b ∧ b.val ≤ 62
  routed : ∀ f ∈ l.downward, f.kind = 1 ∧ nodeOf f.destination ≠ l.ownNode ∧
    (nodeOf f.destination = broadcastNode ∨ ∃ a b, l.range = some (a, b) ∧ a ≤ nodeOf f.destination ∧ nodeOf f.destination ≤ b)

/-- With nothing owed this is the desk link's law. -/
theorem linkLaw_iff (s : State) : s.LinkLaw ↔ LinkOwes s.link 0 :=
  ⟨fun h => ⟨h.downward, h.forward, h.responses, h.promises, h.broadcasts, h.ownNode, h.range, h.routed⟩,
    fun h => ⟨h.downward, h.forward, h.responses, h.promises, h.broadcasts, h.ownNode, h.range, h.routed⟩⟩

theorem linkLaw_reads : ReadsOnly State.LinkLaw [.link] := by
  intro s t same h
  have e : t.link = s.link := same .link (by simp)
  rwa [linkLaw_iff, e, ← linkLaw_iff]

/-- Counters, transmitters, the deferred answers and the source granted last play no part. -/
theorem LinkOwes.aside {l : DeskLink} {k : Nat} (h : LinkOwes l k) (down up : Option DeskFrame) (ds : List DeskFrame)
    (c : LinkCounters) (g : UpstreamSource) :
    LinkOwes { l with downstreamTx := down, upstreamTx := up, deferred := ds, counters := c, lastGranted := g } k :=
  ⟨h.downward, h.forward, h.responses, h.promises, h.broadcasts, h.ownNode, h.range, h.routed⟩

/-- An entry takes a free place. -/
theorem LinkOwes.place {l : DeskLink} {k : Nat} (h : LinkOwes l k) (e : ResponseEntry)
    (room : l.responses.length + l.promises < 4) : LinkOwes { l with responses := l.responses ++ [e] } k :=
  ⟨h.downward, h.forward, by simp only [List.length_append, List.length_singleton]; omega, h.promises, h.broadcasts,
    h.ownNode, h.range, h.routed⟩

theorem LinkOwes.release {l : DeskLink} {k : Nat} (h : LinkOwes l (k + 1)) :
    LinkOwes { l with promises := l.promises - 1 } k := by
  have promises := h.promises
  have responses := h.responses
  exact ⟨h.downward, h.forward, by dsimp only; omega, by dsimp only; omega, h.broadcasts, h.ownNode, h.range, h.routed⟩

/-- An answer turns the promise owed to its request into the entry (R151). -/
theorem answerEntry_owes {q : Request} {e : ResponseEntry} {s : State} (h : LinkOwes s.link q.promised.toNat) :
    LinkOwes (answerEntry q e s).link 0 := by
  unfold answerEntry
  cases promised : q.promised with
  | false => simpa [promised] using h
  | true =>
    rw [promised] at h
    have counted := h.promises
    have bound := h.responses
    refine h.release.place e ?_
    simp only [Bool.toNat_true] at counted
    dsimp only
    omega

theorem answer_owes {q : Request} {st : AnswerStatus} {b : List Byte} {s : State} (h : LinkOwes s.link q.promised.toNat) :
    LinkOwes (answer q st b s).link 0 := answerEntry_owes h

theorem deferAnswer_owes {w : CommitWork} {st : AnswerStatus} {b : List Byte} {s : State} {k : Nat}
    (h : LinkOwes s.link k) : LinkOwes (deferAnswer w st b s).link k := by
  rw [deferAnswer_spec]
  split
  · exact h.aside _ _ _ _ _
  · exact h

/-- Only a broadcast is dropped as one (R150). -/
theorem broadcast_of_dropped {q : Request} (h : handing q = .dropBroadcast) : q.broadcast = true := by
  unfold handing at h
  split at h
  next b => exact b
  split at h
  · exact nomatch h
  split at h
  · exact nomatch h
  split at h
  · exact nomatch h
  split at h <;> exact nomatch h

/-- Answering a request does not look at the requests that wait. -/
theorem answer_link_requests (q : Request) (st : AnswerStatus) (b : List Byte) (rest : List Request) (s : State) :
    { (answer q st b s).link with requests := rest } =
      (answer q st b (s.setLink { s.link with requests := rest })).link := by
  rw [answer_spec, answer_spec]
  split <;> rfl

/-- Handing on the requests `qs` leaves the desk link lawful (R150, R151). -/
theorem handOnAll_owes (qs : List Request) {s : State} (h : LinkOwes { s.link with requests := qs } 0) :
    LinkOwes (handOnAll qs s).link 0 := by
  induction qs generalizing s with
  | nil => exact h
  | cons q qs ih =>
    have behind : LinkOwes { s.link with requests := qs } q.promised.toNat := by
      refine ⟨h.downward, h.forward, h.responses, ?_, fun x hx => h.broadcasts x (List.mem_cons_of_mem q hx), h.ownNode,
        h.range, h.routed⟩
      have := h.promises
      cases promised : q.promised <;> simpa [List.countP_cons, promised] using this
    unfold handOnAll
    split
    · exact h
    next dropped =>
      have unpromised := h.broadcasts q List.mem_cons_self (broadcast_of_dropped dropped)
      rw [unpromised] at behind
      exact ih (behind.aside _ _ _ _ _)
    next status _ =>
      refine ih ?_
      rw [answer_link_requests]
      exact answer_owes behind

theorem handOn_owes {s : State} (h : LinkOwes s.link 0) : LinkOwes (handOn s).link 0 := by
  unfold handOn
  split
  · exact h
  · exact handOnAll_owes _ h

/-- A consumed request joins those that wait, its promise counted, and none for a broadcast (R150). -/
theorem takeRequest_owes {q : Request} {s : State} (h : LinkOwes s.link q.promised.toNat)
    (direct : q.broadcast = true → q.promised = false) : LinkOwes (takeRequest q s).link 0 := by
  refine handOn_owes ⟨h.downward, h.forward, h.responses, ?_, fun x hx => ?_, h.ownNode, h.range, h.routed⟩
  · have := h.promises
    cases promised : q.promised <;> simpa [List.countP_append, promised] using this
  · rcases List.mem_append.1 hx with m | m
    · exact h.broadcasts x m
    · rw [List.mem_singleton.1 m]; exact direct

/-- The request an owner takes is the oldest that waits. -/
theorem requests_of_handed {mine : Request → Bool} {s : State} {q : Request} (h : s.handed mine = some q) :
    ∃ rest, s.link.requests = q :: rest := by
  unfold State.handed at h
  split at h
  · exact nomatch h
  split at h
  next x rest waiting =>
    split at h
    · injection h with h; exact ⟨rest, h ▸ waiting⟩
    · exact nomatch h
  next => exact nomatch h

/-- A row of the desk's requests keeps the desk link lawful where its owner's act pays the promise owed. -/
theorem serve_linkLaw {mine : Request → Bool} {act : Request → State → State} {s : State}
    (pays : ∀ q s, LinkOwes s.link q.promised.toNat → LinkOwes (act q s).link 0) (hs : s.LinkLaw) :
    (serve mine act s).LinkLaw := by
  unfold serve
  split
  next q handed =>
    obtain ⟨rest, waiting⟩ := requests_of_handed handed
    rw [linkLaw_iff] at hs ⊢
    refine handOn_owes (pays q _ ⟨hs.downward, hs.forward, hs.responses, ?_, fun x hx => ?_, hs.ownNode, hs.range, hs.routed⟩)
    · have := hs.promises
      rw [waiting] at this
      show s.link.promises = s.link.requests.tail.countP _ + _
      rw [waiting]
      cases promised : q.promised <;> simpa [List.countP_cons, promised] using this
    · exact hs.broadcasts x (List.mem_of_mem_tail hx)
  next => exact hs

/-- An answer pays the promise after work that leaves the desk link alone. -/
theorem answer_pays {q : Request} {st : AnswerStatus} {b : List Byte} {s t : State}
    (h : LinkOwes s.link q.promised.toNat) (same : t.link = s.link := by rfl) : LinkOwes (answer q st b t).link 0 :=
  answer_owes (same ▸ h)

/-! ### The owners' acts pay -/

/-- A range that SET CHAIN asks for lies above the own node (R154). -/
theorem askedRange_lawful {own : Node} {first last : Byte} {range : Option (Node × Node)}
    (h : askedRange own first last = some range) : ∀ a b, range = some (a, b) → own < a ∧ a ≤ b ∧ b.val ≤ 62 := by
  unfold askedRange at h
  intro a b e
  split at h
  · cases h; exact nomatch e
  split at h
  next ordered =>
    obtain ⟨above, upward, bound⟩ := ordered
    cases h; cases e
    simp only [Fin.lt_def, Fin.le_def, nodeOf]
    omega
  next => exact nomatch h

theorem actSetChain_pays (q : Request) (s : State) (h : LinkOwes s.link q.promised.toNat) :
    LinkOwes (actSetChain q s).link 0 := by
  unfold actSetChain
  split
  next range asked =>
    refine answer_owes ⟨?_, h.forward, h.responses, h.promises, h.broadcasts, h.ownNode, askedRange_lawful asked,
      fun f hf => ?_⟩
    · exact Nat.le_trans (List.length_filter_le _ _) h.downward
    · obtain ⟨waits, routable⟩ := List.mem_filter.1 hf
      obtain ⟨kind, other, -⟩ := h.routed f waits
      refine ⟨kind, other, ?_⟩
      rcases Bool.or_eq_true_iff.1 routable with b | inside
      · exact .inl (of_decide_eq_true b)
      · right
        unfold inRange at inside
        split at inside
        next first last =>
          simp only [Bool.and_eq_true, decide_eq_true_eq] at inside
          exact ⟨first, last, rfl, inside⟩
        next => exact nomatch inside
  next => exact answer_owes h

/-- RESTART cancels every promise and keeps its own answer alone (R155). -/
theorem actRestart_pays (q : Request) (s : State) (h : LinkOwes s.link q.promised.toNat) :
    LinkOwes (actRestart q s).link 0 := by
  have link : (restartAll s).link = (restartBlocks s).link := restartAll_same s .link (by decide)
  have cancelled : (s.link.requests.map fun q => { q with promised := false }).countP Request.promised = 0 := by
    simp [List.countP_eq_zero]
  have reset : LinkOwes (restartAll s).link 0 := by
    rw [link]
    refine ⟨Nat.zero_le 4, Nat.zero_le 4, Nat.zero_le 4, cancelled.symm, fun x hx _ => ?_, h.ownNode, h.range, nofun⟩
    obtain ⟨y, -, rfl⟩ := List.mem_map.1 hx
    rfl
  have empty : (restartAll s).link.responses.length + (restartAll s).link.promises < 4 := by
    rw [link]; exact (by decide : 0 + 0 < 4)
  unfold actRestart
  dsimp only
  split
  · exact reset.place _ empty
  · exact reset

theorem actAbort_pays (q : Request) (s : State) (h : LinkOwes s.link q.promised.toNat) : LinkOwes (actAbort q s).link 0 := by
  have train : (abortTrain s).link = s.link := by unfold abortTrain; split <;> rfl
  refine answer_owes ?_
  unfold abortCheck
  split
  · refine deferAnswer_owes ?_
    rw [setTables_link, train]
    exact h
  · rw [train]; exact h

theorem actCardControl_pays {action : CardIdx → State → State} (away : ∀ n s, (action n s).link = s.link) (q : Request)
    (s : State) (h : LinkOwes s.link q.promised.toNat) : LinkOwes (actCardControl action q s).link 0 := by
  unfold actCardControl
  split
  · exact answer_pays h (away _ s)
  · exact answer_owes h

theorem actTableWrite_pays (q : Request) (s : State) (h : LinkOwes s.link q.promised.toNat) :
    LinkOwes (actTableWrite q s).link 0 := by
  unfold actTableWrite writeSpan
  dsimp only
  split
  · exact answer_owes h
  split
  · exact answer_owes h
  split
  · exact answer_owes h
  split
  · exact answer_owes h
  split
  · exact answer_owes h
  split
  · exact answer_owes h
  · exact answer_pays h

theorem actTableRead_pays (q : Request) (s : State) (h : LinkOwes s.link q.promised.toNat) :
    LinkOwes (actTableRead q s).link 0 := by
  unfold actTableRead
  dsimp only
  split
  · split
    · exact answer_owes h
    split
    · exact answer_owes h
    · exact answer_owes h
  · exact answer_owes h

theorem actCopy_pays (q : Request) (s : State) (h : LinkOwes s.link q.promised.toNat) : LinkOwes (actCopy q s).link 0 := by
  unfold actCopy
  split
  · exact answer_owes h
  · exact answer_pays h

/-- A COMMIT that begins its check releases its promise (R151). -/
theorem actCommit_pays (q : Request) (s : State) (h : LinkOwes s.link q.promised.toNat) :
    LinkOwes (actCommit q s).link 0 := by
  unfold actCommit
  dsimp only
  split
  · exact answer_owes h
  · split
    next promised => rw [promised] at h; exact h.release
    next unpromised => rw [Bool.not_eq_true] at unpromised; rw [unpromised] at h; exact h

theorem actSnapshot_pays (q : Request) (s : State) (h : LinkOwes s.link q.promised.toNat) :
    LinkOwes (actSnapshot q s).link 0 := by
  unfold actSnapshot beginTrain
  dsimp only
  split
  · exact answer_owes h
  split
  · exact answer_owes h
  split
  · exact answer_owes h
  split
  · exact answer_owes h
  split
  · refine answerEntry_owes (s := atBuild s) ?_
    rwa [atBuild_link]
  next unpromised => rw [Bool.not_eq_true] at unpromised; rw [unpromised] at h; exact h

theorem actRefreshControl_pays (q : Request) (s : State) (h : LinkOwes s.link q.promised.toNat) :
    LinkOwes (actRefreshControl q s).link 0 := by
  unfold actRefreshControl
  dsimp only
  split
  · exact answer_owes h
  · exact answer_pays h

theorem actConditionEnable_pays (q : Request) (s : State) (h : LinkOwes s.link q.promised.toNat) :
    LinkOwes (actConditionEnable q s).link 0 := by
  unfold actConditionEnable
  dsimp only
  split
  · exact answer_owes h
  · exact answer_pays h ((replaceEnables_changesOnly _ _ .link (by decide)).trans (foundAt_link _ s))

theorem actConditionAck_pays (q : Request) (s : State) (h : LinkOwes s.link q.promised.toNat) :
    LinkOwes (actConditionAck q s).link 0 := by
  unfold actConditionAck
  dsimp only
  split
  · exact answer_owes h
  · exact answer_pays h ((acknowledge_changesOnly _ _ .link (by decide)).trans (foundAt_link _ s))

/-! ### The desk ports keep the law -/

/-- A lawful frame takes a free place of the Downward Buffer, or is counted as dropped (R146). -/
theorem offerDownward_owes {f : DeskFrame} {s : State} (h : LinkOwes s.link 0)
    (routed : f.kind = 1 ∧ nodeOf f.destination ≠ s.link.ownNode ∧ (nodeOf f.destination = broadcastNode ∨
      ∃ a b, s.link.range = some (a, b) ∧ a ≤ nodeOf f.destination ∧ nodeOf f.destination ≤ b)) :
    LinkOwes (offerDownward f s).link 0 := by
  unfold offerDownward
  split
  next room =>
    refine ⟨?_, h.forward, h.responses, h.promises, h.broadcasts, h.ownNode, h.range, fun x hx => ?_⟩
    · simp only [setLink_link, List.length_append, List.length_singleton]; exact room
    · rcases List.mem_append.1 hx with m | m
      · exact h.routed x m
      · rw [List.mem_singleton.1 m]; exact routed
  next => exact h.aside _ _ _ _ _

/-- Own node and range are fixed but for SET CHAIN. -/
theorem handOnAll_node (qs : List Request) (s : State) :
    (handOnAll qs s).link.ownNode = s.link.ownNode ∧ (handOnAll qs s).link.range = s.link.range := by
  induction qs generalizing s with
  | nil => exact ⟨rfl, rfl⟩
  | cons q qs ih =>
    unfold handOnAll
    split
    · exact ⟨rfl, rfl⟩
    · exact ih _
    next status _ =>
      obtain ⟨node, range⟩ := ih (answer q status [] s)
      rw [node, range, answer_spec]
      split <;> exact ⟨rfl, rfl⟩

theorem takeRequest_node (q : Request) (s : State) :
    (takeRequest q s).link.ownNode = s.link.ownNode ∧ (takeRequest q s).link.range = s.link.range := by
  unfold takeRequest handOn
  split
  · exact ⟨rfl, rfl⟩
  · exact handOnAll_node _ _

theorem consumeOwn_owes {f : DeskFrame} {s : State} (h : LinkOwes s.link 0) : LinkOwes (consumeOwn f s).link 0 := by
  unfold consumeOwn
  split
  next room =>
    have room : s.link.responses.length + s.link.promises < 4 := of_decide_eq_true room
    have promised : LinkOwes { s.link with promises := s.link.promises + 1 } 1 :=
      ⟨h.downward, h.forward, by dsimp only; omega, by rw [h.promises], h.broadcasts, h.ownNode, h.range, h.routed⟩
    exact takeRequest_owes promised nofun
  next => exact h.aside _ _ _ _ _

/-- Routing from the upstream port keeps the desk link lawful: a frame that goes down is a REQUEST to another node, a
broadcast or within the range (R145). -/
theorem routeUpstream_owes {f : DeskFrame} {s : State} (h : LinkOwes s.link 0) : LinkOwes (routeUpstream f s).link 0 := by
  unfold routeUpstream
  dsimp only
  split
  · exact h.aside _ _ _ _ _
  next kind =>
    have kind : f.kind = 1 := not_not.1 kind
    split
    · exact consumeOwn_owes h
    next other =>
      split
      next broadcast =>
        have taken : LinkOwes (consumeBroadcast f s).link 0 := takeRequest_owes h fun _ => rfl
        refine offerDownward_owes taken ⟨kind, ?_, .inl broadcast⟩
        rwa [show (consumeBroadcast f s).link.ownNode = s.link.ownNode from (takeRequest_node _ s).1]
      next =>
        split
        next inside =>
          refine offerDownward_owes h ⟨kind, other, .inr ?_⟩
          unfold inRange at inside
          split at inside
          next first last range =>
            simp only [Bool.and_eq_true, decide_eq_true_eq] at inside
            exact ⟨first, last, range, inside⟩
          next => exact nomatch inside
        next => exact h.aside _ _ _ _ _

theorem badFrame_owes {port : Port} {s : State} (h : LinkOwes s.link 0) : LinkOwes (badFrame port s).link 0 := by
  unfold badFrame
  dsimp only
  rw [announce_link]
  exact h.aside _ _ _ _ _

theorem offerForward_owes {f : DeskFrame} {s : State} (h : LinkOwes s.link 0) : LinkOwes (offerForward f s).link 0 := by
  unfold offerForward
  split
  next room =>
    refine ⟨h.downward, ?_, h.responses, h.promises, h.broadcasts, h.ownNode, h.range, h.routed⟩
    simp only [setLink_link, List.length_append, List.length_singleton]; exact room
  next => rw [announce_link]; exact h.aside _ _ _ _ _

/-- The desk link after a grant of the own source. -/
theorem grantOwn_link (turn : OwnTurn) (s : State) :
    (grantOwn turn s).link =
      { s.link with upstreamTx := some ((turn.atBuild s).ownFrame turn), lastGranted := .own } := by
  have built : (turn.atBuild s).link = s.link := by cases turn <;> simp [OwnTurn.atBuild]
  have took : ∀ u : State, (takeOwnTurn turn u).link = u.link := fun u => by
    cases turn with
    | report => exact removeReport_changesOnly u .link (by decide)
    | urgentImage b => rfl
    | regularImage => rfl
  have granted : (grantOwn turn s).link = { (takeOwnTurn turn (turn.atBuild s)).link with
      upstreamTx := some ((turn.atBuild s).ownFrame turn), lastGranted := .own } := rfl
  rw [granted, took, built]

theorem chooseUpstream_owes {s : State} (h : LinkOwes s.link 0) : LinkOwes (chooseUpstream s).link 0 := by
  have own : ∀ turn, LinkOwes (grantOwn turn s).link 0 := fun turn => by rw [grantOwn_link]; exact h.aside _ _ _ _ _
  have forward : ∀ f rest, s.link.forward = f :: rest → LinkOwes (grantForward f rest s).link 0 := fun f rest waits => by
    have bound := h.forward
    rw [waits] at bound
    exact ⟨h.downward, Nat.le_of_succ_le bound, h.responses, h.promises, h.broadcasts, h.ownNode, h.range, h.routed⟩
  unfold chooseUpstream chooseBelow
  split
  next e rest waits =>
    have bound := h.responses
    rw [waits, List.length_cons] at bound
    exact ⟨h.downward, h.forward, by show rest.length + s.link.promises ≤ 4; omega, h.promises, h.broadcasts, h.ownNode,
      h.range, h.routed⟩
  split
  · exact h
  · exact own _
  next f rest waits _ => exact forward f rest waits
  next f rest turn waits _ =>
    split
    · exact own _
    · exact forward f rest waits

theorem swap_owes {t : Time} {s : State} (h : LinkOwes s.link 0) : LinkOwes (swap t s).link 0 := by
  have finish : ∀ u : State, LinkOwes u.link 0 → LinkOwes (finishSwap u).link 0 := fun u hu => by
    unfold finishSwap
    rw [announce_link]
    dsimp only
    split
    · exact deferAnswer_owes hu
    · exact hu
  unfold swap
  refine finish _ ?_
  rwa [carryIndications_changesOnly _ t _ .link (by decide), carryRelays_changesOnly _ t _ .link (by decide),
    carryCards_changesOnly _ t _ .link (by decide)]

/-- Every command keeps the desk link lawful. -/
theorem exec_linkLaw (c : Instr) (s t : State) (h : exec c s = .next t) (hs : s.LinkLaw) : t.LinkLaw := by
  by_cases written : Part.link ∈ writes c
  case neg => exact linkLaw_reads.keeps (exec_changesOnly c s t h) hs (by simpa using written)
  have owes := (linkLaw_iff s).1 hs
  cases c with
  | powerOn straps =>
    cases h
    rw [linkLaw_iff]
    refine ⟨Nat.zero_le 4, Nat.zero_le 4, Nat.zero_le 4, rfl, nofun, ?_, nofun, nofun⟩
    show (nodeOfStraps straps).val ≤ 62
    unfold nodeOfStraps
    split
    · decide
    · have := straps.isLt
      show straps.toNat ≤ 62
      bv_omega
  | commitSwapComplete =>
    injection h with h; subst h
    rw [linkLaw_iff]
    split
    · exact handOn_owes (swap_owes owes)
    · exact owes
  | checkRefused =>
    injection h with h; subst h
    rw [linkLaw_iff]
    split
    · split
      · rw [announce_link]; exact deferAnswer_owes owes
      · exact owes
    · exact owes
  | deferredAnswerPlaced =>
    injection h with h; subst h
    rw [linkLaw_iff]
    split
    · split
      next room => exact (owes.aside _ _ _ _ _).place _ (of_decide_eq_true room)
      next => exact owes
    · exact owes
  | upstreamTxDone =>
    injection h with h; subst h
    exact (linkLaw_iff _).2 (chooseUpstream_owes (owes.aside _ _ _ _ _))
  | trainFrameBuild =>
    injection h with h; subst h
    rw [linkLaw_iff]
    split
    · split
      next can =>
        simp only [State.canBuildTrainFrame, State.hasRoom, Bool.and_eq_true] at can
        have built : (atBuild s).link = s.link := atBuild_link s
        exact LinkOwes.place (l := (atBuild s).link) (built ▸ owes) _ (built ▸ of_decide_eq_true can.1.2)
      next => exact owes
    · exact owes
  | abortedFrameBuild =>
    injection h with h; subst h
    rw [linkLaw_iff]
    split
    · split
      next can =>
        simp only [State.canBuildTrainFrame, State.hasRoom, Bool.and_eq_true] at can
        exact owes.place _ (of_decide_eq_true can.1.2)
      next => exact owes
    · exact owes
  | upstreamFrameReceived chars =>
    injection h with h; subst h
    rw [linkLaw_iff]
    split
    · exact routeUpstream_owes owes
    · exact badFrame_owes owes
    · exact owes
  | deskRxIdleTimeout port chars =>
    injection h with h; subst h
    rw [linkLaw_iff]
    split
    · exact badFrame_owes owes
    · exact badFrame_owes owes
    · exact owes
    · exact owes
    · exact owes
  | downstreamFrameReceived chars =>
    injection h with h; subst h
    rw [linkLaw_iff]
    split
    · exact offerForward_owes owes
    · exact badFrame_owes owes
    · exact owes
  | downstreamTxDone =>
    injection h with h; subst h
    rw [linkLaw_iff]
    split
    next f rest waits =>
      exact ⟨Nat.le_trans (Nat.le_of_succ_le (by simp [waits])) owes.downward, owes.forward, owes.responses, owes.promises,
        owes.broadcasts, owes.ownNode, owes.range, fun x hx => owes.routed x (by rw [waits]; exact List.mem_cons_of_mem f hx)⟩
    next => exact owes.aside _ _ _ _ _
  | identify => cases h; exact serve_linkLaw (fun _ _ => answer_owes) hs
  | setChain => cases h; exact serve_linkLaw actSetChain_pays hs
  | restart => cases h; exact serve_linkLaw actRestart_pays hs
  | abort => cases h; exact serve_linkLaw actAbort_pays hs
  | readmit => cases h; exact serve_linkLaw (actCardControl_pays fun _ _ => changeCard_link _ _ _ _) hs
  | clearProving => cases h; exact serve_linkLaw (actCardControl_pays fun _ _ => changeCard_link _ _ _ _) hs
  | clearCounters => cases h; exact serve_linkLaw (actCardControl_pays fun _ _ => changeCard_link _ _ _ _) hs
  | tableWrite => cases h; exact serve_linkLaw actTableWrite_pays hs
  | tableRead => cases h; exact serve_linkLaw actTableRead_pays hs
  | copyActiveToStaging => cases h; exact serve_linkLaw actCopy_pays hs
  | commit => cases h; exact serve_linkLaw actCommit_pays hs
  | snapshot => cases h; exact serve_linkLaw actSnapshot_pays hs
  | refreshControl => cases h; exact serve_linkLaw actRefreshControl_pays hs
  | timeSet => cases h; exact serve_linkLaw (fun q s h => answer_pays h (by simp [loadTime])) hs
  | statusRead => cases h; exact serve_linkLaw (fun q s h => answer_pays h (atStatus_link s)) hs
  | conditionEnable => cases h; exact serve_linkLaw actConditionEnable_pays hs
  | conditionAck => cases h; exact serve_linkLaw actConditionAck_pays hs
  | _ => simp [writes, announceParts] at written

/-- Settles O55: each law is kept by every command (R9, R14, R56, R97, R112, R145 to R147, R151), so by every step. -/
theorem everyStepKeepsTheQueuesLawful : Obligations.EveryStepKeepsTheQueuesLawful := fun s t h =>
  ⟨step_keeps frameQueueLaw_reads (by decide) exec_frameQueueLaw s t h,
    step_keeps linkLaw_reads (by decide) exec_linkLaw s t h,
    step_keeps readerLaw_reads (by decide) exec_readerLaw s t h,
    step_keeps reportLaw_reads (by decide) exec_reportLaw s t h,
    step_keeps evaluatorLaw_reads (by decide) exec_evaluatorLaw s t h⟩

end Sys2Proof.Proofs

namespace Sys2Proof.Proofs
open Sys2Proof Sys2Proof.Machine Sys2Proof.Laws

/-! ### What is read from bytes lies in its ranges (R127) -/

theorem within_iff {lo hi x : Nat} : within lo hi x = true ↔ lo ≤ x ∧ x ≤ hi := by simp [within]

theorem readCard_inRange {bs : List Byte} {e : CardEntry} (h : readCard bs = some e) : e.InRange := by
  obtain ⟨n, -, h⟩ := Option.bind_eq_some_iff.1 h
  split at h
  next ok =>
    simp only [Bool.and_eq_true, within_iff] at ok
    obtain ⟨⟨lowOpen, highOpen⟩, lowClose, highClose⟩ := ok
    cases h
    exact ⟨lowOpen, highOpen, lowClose, highClose⟩
  next => exact nomatch h

theorem readFlash_inRange {bs : List Byte} {w : FlashWindow} (h : readFlash bs = some (some w)) : w.InRange := by
  unfold readFlash at h
  split at h
  · dsimp only at h
    split at h
    next ok =>
      simp only [Bool.and_eq_true, within_iff] at ok
      obtain ⟨⟨⟨lowConf, highConf⟩, lowMin, highMin⟩, lowMax, highMax⟩ := ok
      cases h
      exact ⟨lowMin, highMin, lowMax, highMax, lowConf, highConf⟩
    next => exact nomatch h
  · exact nomatch h

theorem readRelayCommon_inRange {bs : List Byte} {c : RelayCommon} (h : readRelayCommon bs = some c) : c.InRange := by
  obtain ⟨card, -, h⟩ := Option.bind_eq_some_iff.1 h
  obtain ⟨flash, read, h⟩ := Option.bind_eq_some_iff.1 h
  obtain ⟨k, -, h⟩ := Option.bind_eq_some_iff.1 h
  split at h
  next ok =>
    simp only [Bool.and_eq_true, within_iff] at ok
    obtain ⟨⟨lowUp, highUp⟩, lowDown, highDown⟩ := ok
    cases h
    exact ⟨lowUp, highUp, lowDown, highDown, fun w present => readFlash_inRange (by rw [read]; exact congrArg some present)⟩
  next => exact nomatch h

theorem readRelay_inRange {bs : List Byte} {e : RelayEntry} (h : readRelay bs = some e) : e.InRange := by
  unfold readRelay at h
  split at h
  · cases h; trivial
  split at h
  · obtain ⟨c, common, h⟩ := Option.bind_eq_some_iff.1 h
    obtain ⟨f, -, h⟩ := Option.bind_eq_some_iff.1 h
    obtain ⟨b, -, h⟩ := Option.bind_eq_some_iff.1 h
    split at h
    next ok => cases h; exact ⟨(within_iff.1 ok).1, (within_iff.1 ok).2, readRelayCommon_inRange common⟩
    next => exact nomatch h
  split at h
  · obtain ⟨c, common, h⟩ := Option.bind_eq_some_iff.1 h
    obtain ⟨f, -, rfl⟩ := Option.map_eq_some_iff.1 h
    exact readRelayCommon_inRange common
  split at h
  · obtain ⟨c, common, h⟩ := Option.bind_eq_some_iff.1 h
    obtain ⟨b, -, rfl⟩ := Option.map_eq_some_iff.1 h
    exact readRelayCommon_inRange common
  · exact nomatch h

theorem readClass_inRange {bs : List Byte} {r : ClassRecord} (h : readClass bs = some r) : r.InRange := by
  unfold readClass at h
  split at h
  · cases h; rfl
  split at h
  next ok =>
    simp only [Bool.and_eq_true, within_iff] at ok
    obtain ⟨⟨⟨⟨-, weight⟩, decay⟩, upper⟩, lower⟩ := ok
    cases h
    exact ⟨weight.1, weight.2, decay.2, upper.1, upper.2, lower.2⟩
  next => exact nomatch h

/-- As many inputs are read as the record says it has. -/
theorem readInputs_length {bs : List Byte} {n : Nat} {rs : List RelayIdx} (h : readInputs bs n = some rs) :
    rs.length = n := by
  have gathered : ∀ (xs : List (Option RelayIdx)) (rs : List RelayIdx),
      xs.foldr (fun x acc => x.bind fun r => acc.map fun rs => r :: rs) (some []) = some rs → rs.length = xs.length := by
    intro xs
    induction xs with
    | nil => intro rs h; cases h; rfl
    | cons x xs ih =>
      intro rs h
      obtain ⟨r, -, h⟩ := Option.bind_eq_some_iff.1 h
      obtain ⟨rest, rest_read, rfl⟩ := Option.map_eq_some_iff.1 h
      rw [List.length_cons, List.length_cons, ih rest rest_read]
  simpa using gathered _ rs h

theorem readIndication_inRange {bs : List Byte} {e : IndicationEntry} (h : readIndication bs = some (some e)) :
    e.InRange := by
  unfold readIndication at h
  split at h
  · exact nomatch h
  · dsimp only at h
    split at h
    · exact nomatch h
    next ok =>
      rw [Bool.not_eq_true, Bool.not_eq_false', within_iff] at ok
      obtain ⟨inputs, read, h⟩ := Option.bind_eq_some_iff.1 h
      obtain ⟨pattern, -, h⟩ := Option.bind_eq_some_iff.1 h
      obtain ⟨doubt, -, h⟩ := Option.bind_eq_some_iff.1 h
      obtain ⟨policy, -, h⟩ := Option.map_eq_some_iff.1 h
      cases h
      rw [← readInputs_length read] at ok
      exact ok

theorem readPattern_inRange {bs : List Byte} {r : PatternRecord} (h : readPattern bs = some r) : r.InRange := by
  unfold readPattern at h
  split at h
  · cases h; exact .inr rfl
  split at h
  · cases h; exact .inl rfl
  · exact nomatch h

theorem readRecord_inRange {t : TableCode} {bs : List Byte} {r : TableRecord} (h : readRecord t bs = some r) :
    r.InRange := by
  cases t with
  | card => obtain ⟨e, read, rfl⟩ := Option.map_eq_some_iff.1 h; exact readCard_inRange read
  | relay => obtain ⟨e, read, rfl⟩ := Option.map_eq_some_iff.1 h; exact readRelay_inRange read
  | cls => obtain ⟨e, read, rfl⟩ := Option.map_eq_some_iff.1 h; exact readClass_inRange read
  | indication =>
    obtain ⟨e, read, rfl⟩ := Option.map_eq_some_iff.1 h
    cases e with
    | none => trivial
    | some e => exact readIndication_inRange read
  | pattern => obtain ⟨e, read, rfl⟩ := Option.map_eq_some_iff.1 h; exact readPattern_inRange read

/-! ### Staging keeps its ranges -/

/-- What Staging holds: written Card entries or empty ones, and every other record within its ranges. -/
structure StagingLaw (b : Bank) : Prop where
  cards : ∀ c : CardIdx, (b.cards[c]).InRange ∨ b.cards[c] = .empty
  others : b.OthersInRange

/-- A vector with one element replaced by one that meets a property keeps that property. -/
theorem forall_set {α : Type} {n : Nat} {p : α → Prop} {v : Vector α n} {i : Nat} {x : α} (h : i < n)
    (all : ∀ k : Fin n, p v[k]) (new : p x) (k : Fin n) : p (v.set i x h)[k] := by
  by_cases e : i = k.val
  · simpa [e] using new
  · simpa [e] using all k

/-- A record within its ranges is placed within Staging's law. -/
theorem StagingLaw.place {b : Bank} (h : StagingLaw b) (i : Nat) {r : TableRecord} (new : r.InRange) :
    StagingLaw (b.place i r) := by
  obtain ⟨cards, ⟨relays, classes, indications, patterns⟩⟩ := h
  cases r with
  | card e =>
    simp only [Bank.place]
    split
    next inside =>
      exact ⟨forall_set (p := fun x : CardEntry => x.InRange ∨ x = .empty) inside cards (.inl new), relays, classes,
        indications, patterns⟩
    next => exact ⟨cards, relays, classes, indications, patterns⟩
  | relay e =>
    simp only [Bank.place]
    split
    next inside => exact ⟨cards, forall_set inside relays new, classes, indications, patterns⟩
    next => exact ⟨cards, relays, classes, indications, patterns⟩
  | cls e =>
    simp only [Bank.place]
    split
    next inside => exact ⟨cards, relays, forall_set inside classes new, indications, patterns⟩
    next => exact ⟨cards, relays, classes, indications, patterns⟩
  | indication e =>
    have new : ∀ e', e = some e' → e'.InRange := fun e' eq => by subst eq; exact new
    simp only [Bank.place]
    split
    next inside =>
      exact ⟨cards, relays, classes,
        forall_set (p := fun x : Option IndicationEntry => ∀ e, x = some e → e.InRange) inside indications new, patterns⟩
    next => exact ⟨cards, relays, classes, indications, patterns⟩
  | pattern e =>
    simp only [Bank.place]
    split
    next inside => exact ⟨cards, relays, classes, indications, forall_set inside patterns new⟩
    next => exact ⟨cards, relays, classes, indications, patterns⟩

theorem StagingLaw.placeAll {b : Bank} (h : StagingLaw b) (start : Nat) {rs : List TableRecord}
    (new : ∀ r ∈ rs, r.InRange) : StagingLaw (b.placeAll start rs) := by
  induction rs generalizing b start with
  | nil => exact h
  | cons r rs ih =>
    exact ih (h.place start (new r List.mem_cons_self)) (start + 1) fun x hx => new x (List.mem_cons_of_mem r hx)

/-- Records read from bytes lie within their ranges. -/
theorem readRecords_inRange {t : TableCode} {count : Nat} {bs : List Byte} :
    ∀ r ∈ (readRecords t count bs).filterMap id, r.InRange := by
  intro r hr
  obtain ⟨x, hx, rfl⟩ := List.mem_filterMap.1 hr
  obtain ⟨k, -, read⟩ := List.mem_map.1 hx
  exact readRecord_inRange read

/-- The empty bank stands in Staging lawfully. -/
theorem empty_stagingLaw : StagingLaw .empty := by
  refine ⟨fun c => .inr ?_, ⟨fun r => ?_, fun k => ?_, fun i e h => ?_, fun p => .inr ?_⟩⟩
  · simp [Bank.empty]
  · simp [Bank.empty, RelayEntry.InRange]
  · simp [Bank.empty, ClassRecord.InRange, ClassRecord.notLoaded]
  · simp [Bank.empty] at h
  · simp [Bank.empty]

/-! ### The Table Store's law -/

theorem tablesLaw_reads : ReadsOnly State.TablesLaw [.tables, .engine] := by
  intro s t same h
  have e : t.tables = s.tables := same .tables (by simp)
  have g : t.engine = s.engine := same .engine (by simp)
  have w : t.swapping = s.swapping := by simp only [State.swapping, g]
  exact ⟨e ▸ h.active, e ▸ h.stagingCards, e ▸ h.staging, e ▸ h.checking, e ▸ h.passed,
    by rw [e, g, w]; exact h.handed, by rw [g, w]; exact h.oneSwap⟩

/-- The law where the tables and the engine stand as given. -/
theorem tablesLaw_of_same {s t : State} (hs : s.TablesLaw) (tables : t.tables = s.tables) (engine : t.engine = s.engine) :
    t.TablesLaw := tablesLaw_reads s t (by simp [Part.same, tables, engine]) hs

theorem stagingLaw_of_tablesLaw {s : State} (h : s.TablesLaw) : StagingLaw s.tables.staging :=
  ⟨h.stagingCards, h.staging⟩

/-- Where the checker is IDLE no swap waits and none is in progress. -/
theorem noSwap_of_checker {s : State} (hs : s.TablesLaw) (h : ∀ w, s.tables.checker ≠ .swapWaiting w) :
    s.engine.swapWaiting = false ∧ s.swapping = false := by
  constructor
  · by_contra waiting
    obtain ⟨w, e⟩ := hs.handed (.inl (by simpa using waiting))
    exact h w e
  · by_contra swapping
    obtain ⟨w, e⟩ := hs.handed (.inr (by simpa using swapping))
    exact h w e

/-- The checker stands IDLE or begins a check, with no swap in hand. -/
theorem tablesLaw_of_checker {s t : State} (hs : s.TablesLaw) (staging : StagingLaw t.tables.staging)
    (active : t.tables.active = s.tables.active)
    (checker : t.tables.checker = .idle ∨ ∃ w, t.tables.checker = .checking w 0)
    (noSwap : t.engine.swapWaiting = false ∧ t.swapping = false) : t.TablesLaw where
  active := by rw [active]; exact hs.active
  stagingCards := staging.cards
  staging := staging.others
  checking w p e := by
    rcases checker with idle | ⟨w', began⟩
    · rw [idle] at e; exact nomatch e
    · rw [began] at e; cases e; rfl
  passed w e := by
    rcases checker with idle | ⟨w', began⟩
    · rw [idle] at e; exact nomatch e
    · rw [began] at e; exact nomatch e
  handed h := by simp [noSwap.1, noSwap.2] at h
  oneSwap _ := noSwap.1

/-- A bank that passes the check has its Card entries within their ranges, since an empty one fails it (R131). -/
theorem inRange_of_passes {b : Bank} (h : StagingLaw b) (passes : b.passes = true) : b.InRange := by
  refine ⟨fun c => (h.cards c).resolve_right fun empty => ?_, h.others⟩
  have fails : b.cardError c = some .badWindow := by simp [Bank.cardError, empty, CardEntry.empty]
  have none : ∀ it ∈ checkOrder, b.itemError it = none := by
    simpa [Bank.passes, Bank.checkFrom, Bank.firstError, Option.isNone_iff_eq_none, List.findSome?_eq_none_iff] using passes
  have := none (.card c) (by simp [checkOrder])
  rw [Bank.itemError, fails] at this
  exact nomatch this

/-- The engine moves between IDLE and CONVERTING: no swap is begun. -/
theorem setEngine_tablesLaw {s : State} (hs : s.TablesLaw) (e : EngineState) (noSwap : ∀ t, e ≠ .swapping t) :
    (s.setEngine { s.engine with state := e }).TablesLaw := by
  have still : (s.setEngine { s.engine with state := e }).swapping = false := by
    cases e with
    | swapping t => exact absurd rfl (noSwap t)
    | _ => rfl
  refine ⟨hs.active, hs.stagingCards, hs.staging, hs.checking, hs.passed, fun h => hs.handed (.inl ?_), fun h => ?_⟩
  · rcases h with waiting | swapping
    · exact waiting
    · rw [still] at swapping; exact nomatch swapping
  · rw [still] at h; exact nomatch h

/-- A swap ends with Staging as the Active bank, the checker and the engine IDLE (R138). -/
theorem swap_tables (t : Time) (s : State) :
    (swap t s).tables = { s.tables with
        active := s.tables.staging, generation := s.tables.generation + 1, checker := .idle } ∧
      (swap t s).engine = { s.engine with state := .idle } := by
  have finish : ∀ u : State, (finishSwap u).tables = { u.tables with checker := .idle } ∧
      (finishSwap u).engine = { u.engine with state := .idle } := fun u => by
    unfold finishSwap
    rw [announce_tables, announce_engine]
    dsimp only
    split <;> simp
  unfold swap
  dsimp only
  rw [(finish _).1, (finish _).2]
  rw [carryIndications_changesOnly _ t _ .tables (by decide), carryRelays_changesOnly _ t _ .tables (by decide),
    carryCards_changesOnly _ t _ .tables (by decide), carryIndications_changesOnly _ t _ .engine (by decide),
    carryRelays_changesOnly _ t _ .engine (by decide), carryCards_changesOnly _ t _ .engine (by decide)]
  exact ⟨rfl, rfl⟩

/-- A completed swap leaves the tables lawful: what was copied had passed the check (R135, R138). -/
theorem swap_tablesLaw {t : Time} {s : State} (hs : s.TablesLaw) (swapping : s.swapping = true) : (swap t s).TablesLaw := by
  obtain ⟨tables, engine⟩ := swap_tables t s
  obtain ⟨w, waiting⟩ := hs.handed (.inr swapping)
  have passes := hs.passed w waiting
  have still : (swap t s).swapping = false := by simp [State.swapping, engine]
  refine ⟨.inr ?_, ?_, ?_, fun w p e => ?_, fun w e => ?_, fun h => ?_, fun h => ?_⟩
  · rw [tables]; exact ⟨passes, inRange_of_passes (stagingLaw_of_tablesLaw hs) passes⟩
  · rw [tables]; exact hs.stagingCards
  · rw [tables]; exact hs.staging
  · rw [tables] at e; exact nomatch e
  · rw [tables] at e; exact nomatch e
  · rw [engine, still] at h
    rcases h with h | h
    · exact absurd (hs.oneSwap swapping) (by simpa using h)
    · exact nomatch h
  · rw [still] at h; exact nomatch h

theorem checker_of_not_inFlight {s : State} (h : ¬s.commitInFlight = true) : s.tables.checker = .idle := by
  simpa [State.commitInFlight] using h

/-- Staging is written only with the checker IDLE (R126, R129). -/
theorem setStaging_tablesLaw {s : State} {b : Bank} (hs : s.TablesLaw) (idle : ¬s.commitInFlight = true)
    (staging : StagingLaw b) : (setStaging b s).TablesLaw := by
  have checker := checker_of_not_inFlight idle
  have noSwap := noSwap_of_checker hs (by simp [checker])
  exact tablesLaw_of_checker hs staging rfl (.inl checker) noSwap

theorem actTableWrite_tablesLaw {q : Request} {s : State} (hs : s.TablesLaw) : (actTableWrite q s).TablesLaw := by
  have turned : ∀ st b, (answer q st b s).TablesLaw := fun st b => tablesLaw_of_same hs (by simp) (by simp)
  unfold actTableWrite writeSpan
  dsimp only
  split
  · exact turned _ _
  next idle =>
    split
    · exact turned _ _
    split
    · exact turned _ _
    split
    · exact turned _ _
    split
    · exact turned _ _
    split
    · exact turned _ _
    · refine tablesLaw_reads.keeps (answer_changesOnly q .ok [] _) (setStaging_tablesLaw hs idle ?_)
      exact (stagingLaw_of_tablesLaw hs).placeAll _ readRecords_inRange

theorem actCopy_tablesLaw {q : Request} {s : State} (hs : s.TablesLaw) : (actCopy q s).TablesLaw := by
  unfold actCopy
  split
  · exact tablesLaw_of_same hs (by simp) (by simp)
  next idle =>
    refine tablesLaw_reads.keeps (answer_changesOnly q .ok [] _) (setStaging_tablesLaw hs idle ?_)
    rcases hs.active with empty | ⟨-, cards, others⟩
    · rw [empty]; exact empty_stagingLaw
    · exact ⟨fun c => .inl (cards c), others⟩

/-- A COMMIT is taken only with the checker IDLE, and its check begins with its first test (R130). -/
theorem actCommit_tablesLaw {q : Request} {s : State} (hs : s.TablesLaw) : (actCommit q s).TablesLaw := by
  unfold actCommit
  dsimp only
  split
  · exact tablesLaw_of_same hs (by simp) (by simp)
  next idle =>
    have noSwap := noSwap_of_checker hs (by simp [checker_of_not_inFlight idle])
    have staged := stagingLaw_of_tablesLaw hs
    have began := tablesLaw_of_checker (t := s.setTables
      { s.tables with checker := .checking { source := q.source, tag := q.tag, answered := q.promised } 0 }) hs
      staged rfl (.inr ⟨_, rfl⟩) noSwap
    split
    · exact tablesLaw_of_same began rfl rfl
    · exact began

/-- An ABORT stops a check alone, never a swap that waits (R136). -/
theorem actAbort_tablesLaw {q : Request} {s : State} (hs : s.TablesLaw) : (actAbort q s).TablesLaw := by
  have train : (abortTrain s).TablesLaw := by
    unfold abortTrain
    split
    · exact tablesLaw_of_same hs rfl rfl
    · exact hs
  refine tablesLaw_reads.keeps (answer_changesOnly q .ok _ _) ?_
  unfold abortCheck
  split
  next w p checking =>
    refine tablesLaw_reads.keeps (deferAnswer_changesOnly _ _ _ _) ?_
    have noSwap := noSwap_of_checker train (by simp [checking])
    have staged := stagingLaw_of_tablesLaw train
    exact tablesLaw_of_checker train staged rfl (.inl rfl) noSwap
  next => exact train

theorem restartBlocks_tables (s : State) : (restartBlocks s).tables = { s.tables with checker := .idle } := rfl

theorem restartBlocks_engine (s : State) : (restartBlocks s).engine = .powerOn := rfl

/-- Every command keeps the tables lawful. -/
theorem exec_tablesLaw (c : Instr) (s t : State) (h : exec c s = .next t) (hs : s.TablesLaw) : t.TablesLaw := by
  by_cases written : Part.tables ∈ writes c ∨ Part.engine ∈ writes c
  case neg => exact tablesLaw_reads.keeps (exec_changesOnly c s t h) hs (by simpa using written)
  cases c with
  | powerOn straps =>
    cases h
    exact ⟨.inl rfl, empty_stagingLaw.cards, empty_stagingLaw.others, nofun, nofun, nofun, nofun⟩
  | conversionStart =>
    injection h with h; subst h
    split
    · split
      next e rest _ =>
        have started := setEngine_tablesLaw hs (.converting e (s.runsPass e)) nofun
        exact tablesLaw_reads.keeps (convert_changesOnly e _) (tablesLaw_of_same started rfl rfl)
      next => exact hs
    · exact hs
  | conversionComplete =>
    injection h with h; subst h
    have idle := setEngine_tablesLaw hs .idle nofun
    split
    · split
      · exact tablesLaw_of_same idle rfl rfl
      · exact hs
    · exact idle
    · exact hs
    · exact hs
  | commitSwapBegin =>
    injection h with h; subst h
    split
    next free =>
      have waiting := hs.handed (.inl (Bool.and_eq_true_iff.1 free).2)
      exact ⟨hs.active, hs.stagingCards, hs.staging, hs.checking, hs.passed, fun _ => waiting, fun _ => rfl⟩
    next => exact hs
  | commitSwapComplete =>
    injection h with h; subst h
    split
    next t swapping =>
      exact tablesLaw_reads.keeps (handOn_changesOnly _) (swap_tablesLaw hs (by simp [State.swapping, swapping]))
    next => exact hs
  | checkPass =>
    injection h with h; subst h
    split
    next w p checking =>
      obtain rfl := hs.checking w p checking
      obtain ⟨-, noSwap⟩ := noSwap_of_checker hs (by simp [checking])
      split
      next passes =>
        refine ⟨hs.active, hs.stagingCards, hs.staging, nofun, fun _ _ => passes, fun _ => ⟨w, rfl⟩, fun swapping => ?_⟩
        rw [show s.swapping = true from swapping] at noSwap
        exact nomatch noSwap
      next => exact hs
    next => exact hs
  | checkRefused =>
    injection h with h; subst h
    split
    next w p checking =>
      split
      · have noSwap := noSwap_of_checker hs (by simp [checking])
        have staged := stagingLaw_of_tablesLaw hs
        have stopped := tablesLaw_of_checker (t := s.setTables { s.tables with checker := .idle }) hs staged rfl (.inl rfl) noSwap
        exact tablesLaw_reads.keeps (announce_changesOnly _ _ _ _)
          (tablesLaw_reads.keeps (deferAnswer_changesOnly _ _ _ _) stopped)
      · exact hs
    next => exact hs
  | restart =>
    cases h
    refine serve_keeps tablesLaw_reads (by decide) (fun q u hu => actRestart_keeps tablesLaw_reads ?_) s hs
    have staged := stagingLaw_of_tablesLaw hu
    have reset : ((u.setTables { u.tables with checker := .idle }).setEngine .powerOn).TablesLaw :=
      tablesLaw_of_checker hu staged rfl (.inl rfl) ⟨rfl, rfl⟩
    have tables : (restartAll u).tables = (restartBlocks u).tables := restartAll_same u .tables (by decide)
    have engine : (restartAll u).engine = (restartBlocks u).engine := restartAll_same u .engine (by decide)
    exact tablesLaw_of_same reset (tables.trans (restartBlocks_tables u)) (engine.trans (restartBlocks_engine u))
  | abort => cases h; exact serve_keeps tablesLaw_reads (by decide) (fun _ _ => actAbort_tablesLaw) s hs
  | tableWrite => cases h; exact serve_keeps tablesLaw_reads (by decide) (fun _ _ => actTableWrite_tablesLaw) s hs
  | copyActiveToStaging => cases h; exact serve_keeps tablesLaw_reads (by decide) (fun _ _ => actCopy_tablesLaw) s hs
  | commit => cases h; exact serve_keeps tablesLaw_reads (by decide) (fun _ _ => actCommit_tablesLaw) s hs
  | _ => simp [writes, announceParts] at written

/-- Settles O58: every command keeps the tables lawful (R16, R127, R130, R135, R138), so every step does. -/
theorem everyStepKeepsTheTablesLawful : Obligations.EveryStepKeepsTheTablesLawful :=
  step_keeps tablesLaw_reads (by decide) exec_tablesLaw

end Sys2Proof.Proofs

namespace Sys2Proof.Proofs
open Sys2Proof Sys2Proof.Machine Sys2Proof.Laws

/-! ### Bytes and packings (R165) -/

/-- A 16-bit number is read back from its two bytes. -/
theorem ofBe16_be16 (n : BitVec 16) : ofBe16 (n.extractLsb' 8 8) (n.extractLsb' 0 8) = n :=
  (BitVec.extractLsb'_append_extractLsb'_eq_extractLsb' rfl).trans BitVec.extractLsb'_eq_self

/-- The 64 inputs are read back from their eight bytes. -/
theorem unpackInputs_packInputs (x : Inputs) :
    unpackInputs (x.extractLsb' 0 8) (x.extractLsb' 8 8) (x.extractLsb' 16 8) (x.extractLsb' 24 8)
      (x.extractLsb' 32 8) (x.extractLsb' 40 8) (x.extractLsb' 48 8) (x.extractLsb' 56 8) = x := by
  have joined : ∀ start m n, x.extractLsb' (start + n) m ++ x.extractLsb' start n = x.extractLsb' start (m + n) :=
    fun _ _ _ => BitVec.extractLsb'_append_extractLsb'_eq_extractLsb' rfl
  unfold unpackInputs
  rw [joined 48 8 8, joined 32 8 8, joined 16 8 8, joined 0 8 8, joined 32 16 16, joined 0 16 16, joined 0 32 32]
  exact BitVec.extractLsb'_eq_self

/-! ### Card frames (R3 to R5, R166) -/

/-- The header byte gives card, proving flag and card-fault flag back, its reserved bits 0. -/
theorem cardHeader_fields (f : CardFrame) :
    (cardHeader f).toNat % 16 = f.card.val ∧ (cardHeader f).getLsbD 4 = f.proving ∧
      (cardHeader f).getLsbD 5 = f.cardFault ∧ (cardHeader f).extractLsb' 6 2 = 0 := by
  have all : ∀ (c : CardIdx) (p cf : Bool),
      let h := BitVec.ofNat 8 (c.val + (if p then 16 else 0) + (if cf then 32 else 0))
      h.toNat % 16 = c.val ∧ h.getLsbD 4 = p ∧ h.getLsbD 5 = cf ∧ h.extractLsb' 6 2 = 0 := by decide
  exact all f.card f.proving f.cardFault

/-- Settles O8: a sent frame passes the three checks and each of its fields is read back (R3 to R5, R166). -/
theorem cardFrameRoundTrip : Obligations.CardFrameRoundTrip := by
  intro f
  obtain ⟨card, proving, cardFault, reserved⟩ := cardHeader_fields f
  have sound : crc16 (cardFrameCovered f) =
      ofBe16 ((crc16 (cardFrameCovered f)).extractLsb' 8 8) ((crc16 (cardFrameCovered f)).extractLsb' 0 8) :=
    (ofBe16_be16 _).symm
  have body : ((cardFrameCovered f ++ be16 (crc16 (cardFrameCovered f))).map fun b => (⟨b, true⟩ : LineChar)).map
      LineChar.byte = cardFrameCovered f ++ be16 (crc16 (cardFrameCovered f)) := by
    simp [Function.comp_def]
  have read : readCardFrame (cardFrameCovered f ++ be16 (crc16 (cardFrameCovered f))) = f := by
    have samples := unpackInputs_packInputs f.samples
    unfold readCardFrame
    rw [CardFrame.mk.injEq]
    exact ⟨Fin.ext card, proving, cardFault, rfl, rfl, samples⟩
  show checkRun (⟨cardDelimiter, true⟩ ::
    (cardFrameCovered f ++ be16 (crc16 (cardFrameCovered f))).map fun b => (⟨b, true⟩ : LineChar)) = .passed f
  unfold checkRun
  dsimp only
  rw [body, read, if_neg (by simp [cardFrameCovered, packInputs, be16])]
  exact (if_neg (not_not.2 sound)).trans (if_neg (not_not.2 reserved))

/-! ### What the checks make of a run (R3 to R6) -/

/-- Raising a counter by 1 counts up, but for the last value. -/
theorem raise_eq (c : Counter) : raise c = if c = 65535#16 then c else c + 1 := by
  apply BitVec.eq_of_toNat_eq
  have := c.isLt
  unfold raise raiseBy
  split
  next full => subst full; rfl
  next more =>
    have below : c.toNat ≠ 65535 := fun e => more (BitVec.eq_of_toNat_eq e)
    rw [BitVec.toNat_ofNat, BitVec.toNat_add]
    show min 65535 (c.toNat + 1) % 65536 = (c.toNat + 1) % 65536
    omega

/-- The length check of R3 fails exactly where the run is not a delimiter and thirteen characters, stop bits and all. -/
theorem checkRun_lengthError {d : LineChar} {rest : List LineChar}
    (h : ¬(d.byte = 0x7E#8 ∧ d.stop = true ∧ (∀ c ∈ rest, c.stop = true) ∧ rest.length = 13)) :
    checkRun (d :: rest) = .lengthError := by
  unfold checkRun
  dsimp only
  rw [if_pos]
  simp only [cardDelimiter, List.any_eq_true, Bool.not_eq_true', List.length_map, ne_eq]
  by_contra none
  simp only [not_or, not_not, not_exists, not_and, Bool.not_eq_false] at none
  exact h none

/-- Past the length check, R4 and R5 judge the run's bytes. -/
theorem checkRun_formed {d : LineChar} {rest : List LineChar}
    (h : d.byte = 0x7E#8 ∧ d.stop = true ∧ (∀ c ∈ rest, c.stop = true) ∧ rest.length = 13) :
    checkRun (d :: rest) =
      let body := rest.map LineChar.byte
      if crc16 (body.take 11) ≠ ofBe16 (byteAt body 11) (byteAt body 12) then .crcError
      else if (byteAt body 0).extractLsb' 6 2 ≠ 0 then .malformed
      else .passed (readCardFrame body) := by
  obtain ⟨delimiter, stop, stops, length⟩ := h
  unfold checkRun
  dsimp only
  rw [if_neg]
  simpa [cardDelimiter, delimiter, stop, length] using stops

theorem reserved_ne_zero {b : Byte} (h : b.getLsbD 6 = true ∨ b.getLsbD 7 = true) : b.extractLsb' 6 2 ≠ 0 := by
  intro zero
  have bit : ∀ i, i < 2 → b.getLsbD (6 + i) = false := fun i hi => by
    have := congrArg (fun x : BitVec 2 => x.getLsbD i) zero
    simpa [BitVec.getLsbD_extractLsb', hi] using this
  rcases h with h | h
  · exact absurd h (by simpa using bit 0 (by decide))
  · exact absurd h (by simpa using bit 1 (by decide))

/-- Settles O6: each failing check raises its own counter alone (R3, R4, R5, R8). -/
theorem badLaneRunIsCountedOnce : Obligations.BadLaneRunIsCountedOnce := by
  intro n d rest changes s
  refine ⟨fun formed => ?_, fun formed unsound => ?_, fun formed sound reserved => ?_⟩
  · show (.next _ : Result) = _
    rw [checkRun_lengthError formed]
    simp [putLane, raise_eq]
  · show (.next _ : Result) = _
    rw [checkRun_formed formed]
    dsimp only
    rw [if_pos unsound]
    simp [putLane, raise_eq]
  · show (.next _ : Result) = _
    rw [checkRun_formed formed]
    dsimp only
    rw [if_neg (not_not.2 sound), if_pos (reserved_ne_zero reserved)]
    simp [putLane, raise_eq]

/-! ### Carrier changes and good frames (R2, R6, R7) -/

/-- A vector written at a `Fin` index and read there; `simp` would change the index first. -/
theorem set_same {α : Type} {k : Nat} (v : Vector α k) (n : Fin k) (x : α) : (v.set n x)[n] = x := by simp

/-- A vector written at a `Fin` index and read at another. -/
theorem set_other {α : Type} {k : Nat} (v : Vector α k) {n m : Fin k} (x : α) (h : m ≠ n) : (v.set n x)[m] = v[m] := by
  have : n.val ≠ m.val := fun e => h (Fin.ext e).symm
  simp [this]

/-- A lane written and its event sent: that lane's state and its card's waiting events alone change. -/
theorem sendLane_putLane (n : CardIdx) (l : LaneReceiver) (e : LaneEvent) (s : State) :
    let t := sendLane n e (putLane n l s)
    t.lanes[n] = l ∧ t.inbox[n] = s.inbox[n] ++ [e] ∧
      (∀ m, m ≠ n → t.lanes[m] = s.lanes[m] ∧ t.inbox[m] = s.inbox[m]) ∧ s.changesOnly t [.lanes, .inbox] :=
  ⟨set_same _ n _, set_same _ n _, fun _ h => ⟨set_other _ _ h, set_other _ _ h⟩, (laneCommands_changesOnly n l e s).2⟩

/-- Settles O5: a carrier flag that moves is written with its event behind those sent before (R2). -/
theorem carrierChangesReachTheSupervisor : Obligations.CarrierChangesReachTheSupervisor := by
  intro n s
  refine ⟨fun clear => ⟨?_, _, ?_, sendLane_putLane n { s.lanes[n] with carrier := true } .carrierRise s⟩,
    fun set => ⟨?_, _, ?_, sendLane_putLane n { s.lanes[n] with carrier := false, lastSequence := none } .carrierFall s⟩⟩
  · exact congrArg Host.Outcome.next (if_neg (by rw [clear]; exact Bool.false_ne_true))
  · exact congrArg Host.Outcome.next (if_neg (by rw [clear]; exact Bool.false_ne_true))
  · exact congrArg Host.Outcome.next (if_pos set)
  · exact congrArg Host.Outcome.next (if_pos set)

/-- The frames missing between two sequence numbers, counted modulo 256 (R6). -/
theorem missingFrames_eq (last seq : Byte) : missingFrames last seq = (seq.toNat + 255 - last.toNat) % 256 := by
  unfold missingFrames
  have := last.isLt
  have := seq.isLt
  have one : (1 : Byte).toNat = 1 := rfl
  simp only [BitVec.toNat_sub, one]
  omega

theorem raiseBy_toNat (c : Counter) (n : Nat) : (raiseBy c n).toNat = min 65535 (c.toNat + n) := by
  unfold raiseBy
  rw [BitVec.toNat_ofNat]
  omega

/-- A stamp is the Time Base before its latest changes: the counter where none of them is kept, else the value before the
oldest of them (R7, log 3). -/
theorem valueBefore_spec (t : TimeBase) (k : Nat) :
    (k = 0 ∨ t.changes = [] → t.valueBefore k = t.counter) ∧
      ∀ c, k ≠ 0 → t.changes[min k t.changes.length - 1]? = some c → t.valueBefore k = c.before := by
  constructor
  · rintro (zero | none)
    · simp [TimeBase.valueBefore, zero]
    · simp [TimeBase.valueBefore, none]
  · intro c some_change oldest
    have last : (t.changes.take k).getLast? = some c := by
      rw [List.getLast?_eq_getElem?, List.length_take, List.getElem?_take, if_pos (by omega), oldest]
    simp [TimeBase.valueBefore, last]

/-- Settles O7: the sequence check counts a repeat alone, and hands any other good frame on with its stamp (R6, R7). -/
theorem goodFrameIsHandedOnAndRepeatIsNot : Obligations.GoodFrameIsHandedOnAndRepeatIsNot := by
  intro n f k s
  have passed : exec (.cardFrameEnd n (encodeCardFrame f) k) s = .next (sequenceCheck n k f s) := by
    show (.next _ : Result) = _
    rw [cardFrameRoundTrip f]
  rw [passed]
  refine ⟨fun again => congrArg Host.Outcome.next (if_pos again), fun other => ?_⟩
  obtain ⟨lane, event, others, frame⟩ :=
    sendLane_putLane n (s.lanes[n].accept f.sequence) (.frame (stamp s.time k f)) s
  refine ⟨_, congrArg Host.Outcome.next (if_neg other), ⟨_, lane, ?_⟩, ⟨_, event, rfl, ?_, ?_, rfl⟩, others, frame⟩
  · cases s.lanes[n].lastSequence with
    | none => rfl
    | some last => exact (raiseBy_toNat _ _).trans (by rw [missingFrames_eq])
  · exact (valueBefore_spec s.time k).1
  · exact (valueBefore_spec s.time k).2

end Sys2Proof.Proofs

namespace Sys2Proof.Proofs
open Sys2Proof Sys2Proof.Machine Sys2Proof.Laws

/-! ### Steps that move one thing (R12 to R14, R16, R113, R146) -/

theorem engineFree_iff (s : State) : s.engineFree = true ↔ s.engine.state = .idle ∧ s.evaluator.inFlight = false := by
  simp [State.engineFree]

/-- With a card event in flight the engine takes up nothing (R12). -/
theorem engine_waits_for_event {s : State} (h : s.evaluator.inFlight = true) :
    exec .commitSwapBegin s = .next s ∧ exec .conversionStart s = .next s := by
  have held : ¬s.engineFree = true := by simp [engineFree_iff, h]
  exact ⟨congrArg Host.Outcome.next (if_neg (by simp [held])), congrArg Host.Outcome.next (if_neg (by simp [held]))⟩

/-- A completion makes the engine IDLE; one with a relay pass waits until no card event does (R14). -/
theorem conversionComplete_withPass {s : State} {q : QueueEntry} (h : s.engine.state = .converting q true) :
    exec .conversionComplete s =
      .next (if s.evaluator.events.isEmpty then endPass (s.setEngine { s.engine with state := .idle }) else s) := by
  show (.next _ : Result) = _
  rw [h]

theorem conversionComplete_withoutPass {s : State} {q : QueueEntry} (h : s.engine.state = .converting q false) :
    exec .conversionComplete s = .next (s.setEngine { s.engine with state := .idle }) := by
  show (.next _ : Result) = _
  rw [h]

theorem downstreamTxDone_cons {s : State} {f : DeskFrame} {rest : List DeskFrame} (h : s.link.downward = f :: rest) :
    exec .downstreamTxDone s = .next (s.setLink { s.link with downward := rest, downstreamTx := some f }) := by
  show (.next _ : Result) = _
  rw [h]

theorem downstreamTxDone_nil {s : State} (h : s.link.downward = []) :
    exec .downstreamTxDone s = .next (s.setLink { s.link with downstreamTx := none }) := by
  show (.next _ : Result) = _
  rw [h]

/-- An expiry that has been reached moves the regular block, and the timer runs on (R113). -/
theorem refreshExpiry_reached {s : State} {x : Time} (running : s.reader.nextExpiry = some x)
    (due : (s.time.counter - x).toNat < 2 ^ 31) :
    exec .refreshExpiry s = .next (s.setReader { s.reader with
      regular := s.reader.regular.atExpiry, nextExpiry := some (x + BitVec.ofNat 32 s.reader.interval) }) := by
  show (.next _ : Result) = _
  rw [running]
  exact congrArg Host.Outcome.next (if_pos (decide_eq_true due))

theorem atExpiry_eq (b : RegularBlock) : b.atExpiry = if b = .none then .due else .overdue := by
  cases b <;> rfl

/-- Settles O18: each of these steps by the lemma of its command. -/
theorem stepsThatMoveOneThing : Obligations.StepsThatMoveOneThing := by
  intro s
  refine ⟨fun q converting => ⟨fun none => ?_, fun some => ?_⟩, fun q converting => conversionComplete_withoutPass converting,
    engine_waits_for_event, fun engine noEvent => ?_, fun f rest => downstreamTxDone_cons, downstreamTxDone_nil,
    fun x running due => ?_⟩
  · rw [conversionComplete_withPass converting, if_pos (by rw [none]; rfl)]
    rfl
  · rw [conversionComplete_withPass converting, if_neg (by simpa using some)]
  · have free : (s.engineFree && s.engine.swapWaiting) = true := by
      rw [Bool.and_eq_true, engineFree_iff, engine]
      exact ⟨⟨rfl, noEvent⟩, rfl⟩
    exact congrArg Host.Outcome.next (if_pos free)
  · rw [refreshExpiry_reached running due, atExpiry_eq]

/-! ### A conversion that runs no relay pass (R13) -/

/-- CONVERSION_START with a free engine and no swap waiting removes the oldest frame and converts it. -/
theorem conversionStart_free {s : State} {q : QueueEntry} {rest : List QueueEntry}
    (engine : s.engine = { state := .idle, swapWaiting := false }) (noEvent : s.evaluator.inFlight = false)
    (queue : s.frameQueue = q :: rest) :
    exec .conversionStart s = .next (convert q (endPass ((s.setFrameQueue rest).setEngine
      { state := .converting q (s.runsPass q), swapWaiting := false }))) := by
  have free : (s.engineFree && !s.engine.swapWaiting) = true := by
    rw [Bool.and_eq_true, engineFree_iff, engine]
    exact ⟨⟨rfl, noEvent⟩, rfl⟩
  refine (congrArg Host.Outcome.next (if_pos free)).trans ?_
  rw [queue, engine]

/-- A stale frame is counted; the known flags stand, since the card's state and map do (R13, R33). -/
theorem countStale_eq {n : CardIdx} {s : State} (known : s.input.known[n] = knownFlags s.cards[n]) :
    countStale n s = s.setCards (s.cards.set n
      { s.cards[n] with counters := { s.cards[n].counters with stale := raise s.cards[n].counters.stale } }) := by
  have stands : s.input.known.set n (knownFlags s.cards[n]) = s.input.known := by
    rw [← known]; exact Vector.set_getElem_self n.isLt
  show ((s.setCards _).setInput { s.input with known := s.input.known.set n (knownFlags s.cards[n]) }) = _
  rw [stands]
  rfl

/-- Settles O15: of the frame of a card out of service the values alone are written, or it is counted stale (R13). -/
theorem conversionOutOfServiceRunsNoPass : Obligations.ConversionOutOfServiceRunsNoPass := by
  intro s q rest law engine noEvent queue
  rw [conversionStart_free engine noEvent queue]
  refine ⟨fun partly => ?_, fun notWaiting notSuspect notServing => ?_⟩
  · have noPass : s.runsPass q = false := by
      refine decide_eq_false fun serving => ?_
      rcases partly with w | w <;> exact nomatch w.symm.trans serving
    rw [noPass]
    unfold convert
    rcases partly with w | w
    · rw [show (endPass ((s.setFrameQueue rest).setEngine
        { state := .converting q false, swapWaiting := false })).cards[q.card].state = .waiting from w]
      rfl
    · rw [show (endPass ((s.setFrameQueue rest).setEngine
        { state := .converting q false, swapWaiting := false })).cards[q.card].state = .suspect from w]
      rfl
  · have noPass : s.runsPass q = false := decide_eq_false notServing
    rw [noPass]
    have stale : ∀ u : State, u.cards = s.cards → convert q u = countStale q.card u := fun u cards => by
      unfold convert
      rw [cards]
      split
      next h => exact absurd h notServing
      next h => exact absurd h notWaiting
      next h => exact absurd h notSuspect
      next => rfl
    have known : (endPass ((s.setFrameQueue rest).setEngine
        { state := .converting q false, swapWaiting := false })).input.known[q.card] = knownFlags s.cards[q.card] :=
      law.known q.card
    exact congrArg Host.Outcome.next ((stale _ (by rfl)).trans (countStale_eq known))

end Sys2Proof.Proofs

namespace Sys2Proof.Proofs
open Sys2Proof Sys2Proof.Machine Sys2Proof.Laws

/-! ### The state after reset, element by element -/

theorem reset_card (n : CardIdx) :
    State.reset.cards[n] = CardContext.powerOn ∧ State.reset.tables.active.cards[n] = CardEntry.empty ∧
      State.reset.input.known[n] = 0 :=
  ⟨Vector.getElem_replicate n.isLt, Vector.getElem_replicate n.isLt, Vector.getElem_replicate n.isLt⟩

theorem reset_relay (r : RelayIdx) :
    State.reset.relays[r] = .reset 0 ∧ State.reset.tables.active.relays[r] = RelayEntry.none :=
  ⟨Vector.getElem_replicate r.isLt, Vector.getElem_replicate r.isLt⟩

theorem reset_indication (i : IndicationIdx) :
    State.reset.indications[i] = ImageEntry.powerOn ∧ State.reset.tables.active.indications[i] = none :=
  ⟨Vector.getElem_replicate i.isLt, Vector.getElem_replicate i.isLt⟩

theorem reset_condition (n : ConditionIdx) :
    State.reset.conditions.enables[n] = false ∧ State.reset.conditions.latched[n] = false :=
  ⟨Vector.getElem_replicate n.isLt, Vector.getElem_replicate n.isLt⟩

theorem common_none {c : RelayCommon} : RelayEntry.none.common ≠ some c := nofun

/-! ### The state after reset under each law -/

theorem reset_conditionsLaw : State.reset.ConditionsLaw where
  live := by decide +kernel
  enabled n latched := absurd latched (by simp only [(reset_condition n).2, Bool.false_eq_true, not_false_eq_true])
  held n enabled := absurd enabled (by simp only [(reset_condition n).1, Bool.false_eq_true, not_false_eq_true])
  settled := rfl

/-- A card at its power-on values obeys its law under the empty entry. -/
theorem powerOn_cardLaw : CardLaw .empty .powerOn :=
  ⟨by decide, by decide, nofun, nofun, by decide, by decide, by decide, by decide⟩

theorem reset_cardsLaw : State.reset.CardsLaw where
  cards n := by rw [(reset_card n).1, (reset_card n).2.1]; exact powerOn_cardLaw
  known n := by rw [(reset_card n).1, (reset_card n).2.2]; rfl

theorem reset_tablesLaw : State.reset.TablesLaw :=
  ⟨.inl rfl, empty_stagingLaw.cards, empty_stagingLaw.others, nofun, nofun, nofun, nofun⟩

/-- A relay at its reset values obeys its law under an entry of kind NONE. -/
theorem reset_relayLaw : RelayLaw .none .notLoaded (.reset 0) :=
  ⟨by decide, fun _ => rfl, by decide, by decide, by decide, by decide, rfl, nofun, nofun, nofun, nofun, nofun,
    fun _ => rfl, fun _ => ⟨nofun, nofun⟩⟩

theorem reset_relaysLaw : State.reset.RelaysLaw := fun r => by
  rw [(reset_relay r).1, (reset_relay r).2]
  exact reset_relayLaw

theorem reset_indicationsLaw : State.reset.IndicationsLaw where
  defined i := by rw [(reset_indication i).1, (reset_indication i).2]; rfl
  coded i := by rw [(reset_indication i).1]; rfl
  doubt i e h := by rw [(reset_indication i).2] at h; exact nomatch h
  changed := rfl

/-- Settles O4: the tables are empty and nothing waits, so each law holds block by block. -/
theorem resetMeetsEveryLaw : Obligations.ResetMeetsEveryLaw :=
  ⟨⟨by decide, nofun⟩,
    ⟨by decide, by decide, by decide, by decide, nofun, by decide, nofun, nofun⟩,
    ⟨by decide, by decide, by decide, by decide, by decide⟩,
    reset_conditionsLaw, reset_cardsLaw, reset_tablesLaw, reset_relaysLaw,
    fun r _ h => absurd ((reset_relay r).2 ▸ h) common_none, fun r _ h => absurd ((reset_relay r).2 ▸ h) common_none,
    reset_indicationsLaw, ⟨by decide, rfl, nofun, nofun, nofun⟩, nofun⟩

end Sys2Proof.Proofs

namespace Sys2Proof.Proofs
open Sys2Proof Sys2Proof.Machine Sys2Proof.Laws

/-! ### One subject's records over the offers of a step (R96 to R99) -/

/-- Is an offer of another subject than `x`? -/
def OfOther (x : Subject) (o : Offer) : Prop := o.subject ≠ x

/-- Since `s`, nothing has been offered for the subject `x`, and the time has stood. -/
def Unoffered (s : State) (x : Subject) (u : State) : Prop := u.time = s.time ∧ s.NotOffered u x

/-- Since `s`, one offer for the subject `x` has been taken. -/
def OfferedOnce (s : State) (x : Subject) (v : RecordValue) (time : Time) (u : State) : Prop := s.Offered u x v time

/-- An offer never shortens the queue. -/
theorem length_le_takeOffer (valid : Bool) (o : Offer) (q : ReportQueue) :
    q.records.length ≤ (takeOffer valid o q).1.records.length := by
  rcases takeOffer_cases valid o q with ⟨-, e⟩ | ⟨-, -, e⟩ | ⟨-, -, e⟩ <;> simp [e]

/-- An offer leaves the records of every other subject. -/
theorem takeOffer_other {x : Subject} {o : Offer} (other : OfOther x o) (valid : Bool) (q : ReportQueue) :
    (takeOffer valid o q).1.records.filter (fun r => r.subject = x) = q.records.filter fun r => r.subject = x := by
  rcases takeOffer_cases valid o q with ⟨-, e⟩ | ⟨-, -, e⟩ | ⟨-, -, e⟩
  · rw [e, List.filter_map]
    have subject : ∀ r : ChangeRecord, (if r.subject = o.subject then coalesce valid o r else r).subject = r.subject := by
      intro r; split <;> rfl
    rw [List.map_congr_left (g := id), List.map_id]
    · exact List.filter_congr fun r _ => by simp [subject]
    · intro r hr
      have : r.subject = x := by simpa [subject] using (List.mem_filter.1 hr).2
      simp [this, other.symm]
  · have new : (newRecord valid o).subject ≠ x := other
    simp [e, new]
  · simp [e]

theorem recordsOf_queueTakes_other {x : Subject} {o : Offer} (other : OfOther x o) (s : State) :
    (queueTakes o s).recordsOf x = s.recordsOf x := by
  simp only [State.recordsOf, queueTakes_report]
  exact takeOffer_other other _ _

theorem length_le_queueTakes (o : Offer) (s : State) :
    s.report.records.length ≤ (queueTakes o s).report.records.length := by
  rw [queueTakes_report]
  exact length_le_takeOffer _ o _

section
variable {x : Subject} (notCondition : ∀ n, x ≠ .condition n)
include notCondition

theorem unoffered_invariant (s : State) : OfferInvariant (Unoffered s x) (OfOther x) where
  reads u t same h := by
    have time : t.time = u.time := same .time (by simp)
    have report : t.report = u.report := same .report (by simp)
    exact ⟨time.trans h.1, by simpa only [State.NotOffered, State.recordsOf, report] using h.2⟩
  takes o u other h := ⟨(queueTakes_time o u).trans h.1, (recordsOf_queueTakes_other other u).trans h.2⟩
  conditions n _ := fun e => notCondition n e.symm

theorem offeredOnce_invariant (s : State) (v : RecordValue) (time : Time) :
    OfferInvariant (OfferedOnce s x v time) (OfOther x) where
  reads u t same h := by
    have report : t.report = u.report := same .report (by simp)
    simpa only [OfferedOnce, State.Offered, State.recordsOf, report] using h
  takes o u other h := fun room => by
    rw [recordsOf_queueTakes_other other]
    exact h (room.imp_right (Nat.lt_of_le_of_lt (length_le_queueTakes o u)))
  conditions n _ := fun e => notCondition n e.symm

end

/-- With room for it, an offer is coalesced with the record of its subject that waits, or becomes a new one (R98, R99). -/
theorem takeOffer_subject (valid : Bool) (o : Offer) (q : ReportQueue)
    (room : q.records.filter (fun r => r.subject = o.subject) ≠ [] ∨ (takeOffer valid o q).1.records.length < 256) :
    (takeOffer valid o q).1.records.filter (fun r => r.subject = o.subject) =
      if q.records.filter (fun r => r.subject = o.subject) = [] then [newRecord valid o]
      else (q.records.filter fun r => r.subject = o.subject).map (coalesce valid o) := by
  have none_iff : q.records.filter (fun r => r.subject = o.subject) = [] ↔ ∀ r ∈ q.records, r.subject ≠ o.subject := by
    simp [List.filter_eq_nil_iff]
  rcases takeOffer_cases valid o q with ⟨⟨r, hr, same⟩, e⟩ | ⟨new, -, e⟩ | ⟨new, full, e⟩
  · rw [if_neg fun none => none_iff.1 none r hr same, e, List.filter_map]
    have subject : ∀ r : ChangeRecord, (if r.subject = o.subject then coalesce valid o r else r).subject = r.subject := by
      intro r; split <;> rfl
    rw [List.filter_congr (q := fun r => decide (r.subject = o.subject)) fun r _ => by simp [subject]]
    exact List.map_congr_left fun r hr => if_pos (by simpa using (List.mem_filter.1 hr).2)
  · rw [if_pos (none_iff.2 new), e, List.filter_append, none_iff.2 new]
    simp [newRecord]
  · rw [e] at room
    rcases room with some | room
    · exact absurd (none_iff.2 new) some
    · exact absurd room (Nat.not_lt.2 full)

/-- The first offer for a subject since `s` is the one offer taken for it. -/
theorem queueTakes_offered {s u : State} {o : Offer} (h : Unoffered s o.subject u) :
    OfferedOnce s o.subject o.value o.time (queueTakes o u) := by
  obtain ⟨time, before⟩ := h
  intro room
  have report : (queueTakes o u).report = (takeOffer s.time.valid o u.report).1 := by rw [queueTakes_report, time]
  rw [State.NotOffered] at before
  rw [report, ← before] at room
  rw [← before]
  refine (congrArg (List.filter _) (congrArg _ report)).trans ((takeOffer_subject _ o u.report room).trans ?_)
  show (if u.recordsOf o.subject = [] then _ else (u.recordsOf o.subject).map _) = _
  split
  · rfl
  · refine List.map_congr_left fun r hr => ?_
    have subject : r.subject = o.subject := by simpa using (List.mem_filter.1 hr).2
    cases s.time.valid <;> simp [coalesce, raiseTo, subject]

section
variable {x : Subject} (notCondition : ∀ n, x ≠ .condition n)
include notCondition

/-- A block's one offer, where no CONDITION record for the subject waits. -/
theorem offer_offered {s u : State} {o : Offer} (subject : o.subject = x) (h : Holding (Unoffered s x) (OfOther x) u) :
    Holding (OfferedOnce s x o.value o.time) (OfOther x) (offer o u) := by
  subst subject
  have inv := unoffered_invariant notCondition s
  have taken := inv.takeFreely h
  exact ⟨queueTakes_offered taken.1, waiting_queueTakes inv.conditions o taken.2⟩

theorem makeKnown_offered {s u : State} {o : Offer} (es ls : List ConditionIdx) (subject : o.subject = x)
    (h : Holding (Unoffered s x) (OfOther x) u) :
    Holding (OfferedOnce s x o.value o.time) (OfOther x) (makeKnown [o] es ls u) := by
  have inv := unoffered_invariant notCondition s
  have risen := inv.riseAll (es ++ ls.filter fun n => u.source n && !u.conditions.live[n])
    (inv.keeps_away _ h (followLive_changesOnly ls u) rfl)
  exact offer_offered notCondition subject risen

end

/-- Where no CONDITION record waits, nothing has yet been offered. -/
theorem unoffered_refl {s : State} (x : Subject) (none : s.conditions.waiting = []) :
    Holding (Unoffered s x) (OfOther x) s :=
  ⟨⟨rfl, rfl⟩, by simp [none]⟩

/-! ### One card's step (R33 to R35) -/

theorem card_not_condition (n : CardIdx) : ∀ m, Subject.card n ≠ .condition m := fun _ => nofun

/-- A card's change offers its CARD record where its state, fault reason or proving status changes, and no other. -/
theorem announceCard_record {s u : State} {n : CardIdx} {t : Time} {b : CardContext} (es : List ConditionIdx)
    (h : Holding (Unoffered s (.card n)) (OfOther (.card n)) u) :
    if b.state = u.cards[n].state ∧ b.proving = u.cards[n].proving then s.NotOffered (announceCard n t b es u) (.card n)
    else s.Offered (announceCard n t b es u) (.card n) (.card u.cards[n].state u.cards[n].proving) t := by
  have inv := unoffered_invariant (card_not_condition n) s
  have sent : u.changesOnly
      (sendEvents (cardEvents n t b u.cards[n]) (pastRelays (u.passReads n b u.cards[n]) u)) [.evaluator] := by
    intro p; cases p <;> simp [Part.same]
  have begun := inv.keeps_away _ h sent (by simp)
  have known : announceCard n t b es u = announce (cardOffers n t b u.cards[n]) es [cCardDown, cProvingFail]
      (sendEvents (cardEvents n t b u.cards[n]) (pastRelays (u.passReads n b u.cards[n]) u)) := rfl
  unfold cardOffers at known
  by_cases same : b.state = u.cards[n].state ∧ b.proving = u.cards[n].proving
  · rw [if_pos same] at known ⊢
    rw [known]
    exact (inv.announce es _ (fun _ m => absurd m List.not_mem_nil) begun).1.2
  · rw [if_neg same] at known ⊢
    rw [known]
    exact ((offeredOnce_invariant (card_not_condition n) s _ _).settle
      (makeKnown_offered (card_not_condition n) es _ rfl begun)).1

theorem cardEvents_eq (n : CardIdx) (t : Time) (b a : CardContext) : cardEvents n t b a = eventsOf n t b a := by
  unfold cardEvents eventsOf
  by_cases serves : b.state = .inService <;> by_cases stays : a.state = .inService <;>
    by_cases map : b.errorMap = a.errorMap <;> simp [serves, stays, map]

/-- The state in which a card's change is announced: its waiting events, its context and the frame queue replaced. -/
def cardPut (n : CardIdx) (rest : List LaneEvent) (queue : List QueueEntry) (c : CardContext) (s : State) : State :=
  (putCard n c (s.setInbox (s.inbox.set n rest))).setFrameQueue queue

theorem cardPut_changesOnly (n : CardIdx) (rest : List LaneEvent) (queue : List QueueEntry) (c : CardContext) (s : State) :
    s.changesOnly (cardPut n rest queue c s) [.inbox, .frameQueue, .cards, .input] := by
  intro p; cases p <;> simp [Part.same, cardPut, putCard]

/-- A change of one card, announced, is a step of that card. -/
theorem announceCard_cardStep {s : State} (n : CardIdx) (time : Time) (es : List ConditionIdx) (rest : List LaneEvent)
    (queue : List QueueEntry) (after : CardContext) (settled : s.conditions.waiting = []) :
    s.CardStep (announceCard n time s.cards[n] es (cardPut n rest queue after s)) n time rest queue after := by
  have put : ∀ m, _ := fun m => putCard_spec n m after (s.setInbox (s.inbox.set n rest))
  have card : (cardPut n rest queue after s).cards[n] = after := (put n).1.trans (if_pos rfl)
  have evaluator := announceCard_evaluator n time s.cards[n] es (cardPut n rest queue after s)
  rw [card, cardEvents_eq] at evaluator
  have free : (cardPut n rest queue after s).evaluatorFree = true ↔ s.EvaluatorsFree := evaluatorFree_iff s
  have record := announceCard_record (s := s) (n := n) (t := time) (b := s.cards[n]) es
    (u := cardPut n rest queue after s) ((unoffered_invariant (card_not_condition n) s).keeps_away _ 
      (unoffered_refl _ settled) (cardPut_changesOnly n rest queue after s) rfl)
  rw [card] at record
  have taken : ((cardPut n rest queue after s).evaluatorFree && !(eventsOf n time s.cards[n] after).isEmpty) = true ↔
      s.EvaluatorsFree ∧ eventsOf n time s.cards[n] after ≠ [] := by
    rw [Bool.and_eq_true, free, Bool.not_eq_true', Bool.eq_false_iff, ne_eq, List.isEmpty_iff]
  have inbox : (cardPut n rest queue after s).inbox = s.inbox.set n rest := rfl
  exact {
    card := by rw [announceCard_cards]; exact card
    otherCards := fun m other => by rw [announceCard_cards]; exact (put m).1.trans (if_neg other.symm)
    inbox := by rw [announceCard_inbox, inbox]; exact set_same ..
    otherInboxes := fun m other => by rw [announceCard_inbox, inbox]; exact set_other _ _ other
    queue := by rw [announceCard_frameQueue]; rfl
    known := by rw [announceCard_input]; exact (put n).2.1.trans (if_pos rfl)
    otherKnown := fun m other => by rw [announceCard_input]; exact (put m).2.1.trans (if_neg other.symm)
    values := by rw [announceCard_input]; rfl
    events := by rw [evaluator]; rfl
    inFlight := by rw [evaluator]; exact (Bool.or_eq_true ..).to_iff.trans (or_congr Iff.rfl taken)
    changed := by rw [evaluator]; rfl
    passEnds := fun f sent => by rw [evaluator]; exact if_pos (taken.2 ⟨f, sent⟩)
    passStays := fun held => by rw [evaluator]; exact if_neg fun h => held (taken.1 h)
    record := record
    frame := changesOnly_trans (changesOnly_mono _ (cardPut_changesOnly n rest queue after s))
      (changesOnly_mono _ (announceCard_changesOnly n time _ es _)) }

end Sys2Proof.Proofs

namespace Sys2Proof.Proofs
open Sys2Proof Sys2Proof.Machine Sys2Proof.Laws

/-! ### What the Supervisor makes of an accepted frame (R21 to R23, R28) -/

theorem expectsProving_iff (e : CardEntry) (seq : Byte) : e.expectsProving seq = true ↔ expectedAt e seq := by
  unfold CardEntry.expectsProving expectedAt
  cases e.interval with
  | off => simp
  | _ => exact decide_eq_true_iff

/-- The proving check moves no card and counts no drop. -/
theorem provingCheck_keeps (e : CardEntry) (f : CardFrame) (c : CardContext) :
    (provingCheck e f c).state = c.state ∧ (provingCheck e f c).counters.queueDrops = c.counters.queueDrops := by
  unfold provingCheck
  split
  · exact ⟨rfl, rfl⟩
  split
  · split
    · unfold cleanFrame; split <;> exact ⟨rfl, rfl⟩
    · exact ⟨rfl, rfl⟩
  · exact ⟨rfl, rfl⟩

/-- A card in one of the states in which its frames may be queued (R28). -/
def Queues (c : CardContext) : Prop := c.state = .waiting ∨ c.state = .inService ∨ c.state = .suspect

theorem serviceState_queues (cf : Bool) (c : CardContext) : Queues { c with state := serviceState cf } := by
  cases cf
  · exact .inr (.inl rfl)
  · exact .inr (.inr rfl)

/-- R23's move leads from every supervised state to one in which frames may be queued, and counts no drop. -/
theorem acceptedMove_queues (cf : Bool) {c : CardContext}
    (supervised : c.state = .waiting ∨ c.state = .inService ∨ c.state = .suspect ∨ c.state = .late) :
    Queues (acceptedMove cf c) ∧ (acceptedMove cf c).counters.queueDrops = c.counters.queueDrops := by
  unfold acceptedMove
  rcases supervised with w | w | w | w <;> rw [w]
  · dsimp only
    split
    · exact ⟨.inl rfl, rfl⟩
    · exact ⟨serviceState_queues cf { c with readmissionRun := 0 }, rfl⟩
  · exact ⟨serviceState_queues cf c, rfl⟩
  · exact ⟨serviceState_queues cf c, rfl⟩
  · exact ⟨.inl rfl, rfl⟩

theorem supervised_of_accepts {s : State} {n : CardIdx} {f : GoodFrame} (h : s.Accepts n f) :
    (s.cards[n]).state.supervised = true := by
  rcases h.state with w | w | w | w <;> rw [w] <;> rfl

theorem isEarly_of_accepts {s : State} {n : CardIdx} {f : GoodFrame} (h : s.Accepts n f) :
    isEarly s.tables.active.cards[n] f s.cards[n] = false := by
  unfold isEarly
  split
  next w window => exact decide_eq_false (Nat.not_lt.2 (h.window w window))
  next => rfl

/-- A frame that passes the identity check and the window test is judged accepted. -/
theorem judgeFrame_of_accepts {s : State} {n : CardIdx} {f : GoodFrame} (h : s.Accepts n f) :
    judgeFrame n s.tables.active.cards[n] f s.cards[n] =
      (acceptedFrame s.tables.active.cards[n] f s.cards[n],
        fitForQueue s.tables.active.cards[n] f.frame (acceptedFrame s.tables.active.cards[n] f s.cards[n])) := by
  unfold judgeFrame
  rw [supervised_of_accepts h, isEarly_of_accepts h, if_neg (by decide), if_neg (not_not.2 h.card),
    if_neg (not_not.2 h.code), if_neg (by decide)]

theorem acceptedFrame_queues {s : State} {n : CardIdx} {f : GoodFrame} (h : s.Accepts n f) (e : CardEntry) :
    Queues (acceptedFrame e f s.cards[n]) ∧
      (acceptedFrame e f s.cards[n]).counters.queueDrops = s.cards[n].counters.queueDrops := by
  obtain ⟨state, drops⟩ := provingCheck_keeps e f.frame { s.cards[n] with
    earlyRun := 0, window := some (windowAt e f.measured)
    counters := { s.cards[n].counters with accepted := raise s.cards[n].counters.accepted } }
  obtain ⟨queues, kept⟩ := acceptedMove_queues f.frame.cardFault (by rw [state]; exact h.state)
  exact ⟨queues, kept.trans drops⟩

/-- A frame of a card whose frames may be queued is offered unless it is, or should be, a proving frame (R28). -/
theorem fitForQueue_iff {e : CardEntry} {f : CardFrame} {c : CardContext} (queues : Queues c) :
    fitForQueue e f c = true ↔ f.proving = false ∧ ¬expectedAt e f.sequence := by
  unfold fitForQueue
  rw [← expectsProving_iff]
  rcases queues with w | w | w <;> simp [w]

/-- SUPERVISOR_FRAME_TAKEN takes the frame that waits. -/
theorem supervisorFrameTaken_waits {s : State} {n : CardIdx} {f : GoodFrame} {rest : List LaneEvent}
    (h : s.FrameWaits n f rest) : exec (.supervisorFrameTaken n) s = .next (takeFrame n f (popInbox n s)) := by
  show (.next _ : Result) = _
  rw [if_neg (by simp [h.swap]), h.head]
  rfl

theorem popInbox_waits {s : State} {n : CardIdx} {f : GoodFrame} {rest : List LaneEvent} (h : s.FrameWaits n f rest) :
    popInbox n s = s.setInbox (s.inbox.set n rest) := by
  unfold popInbox
  rw [h.head]
  rfl

/-! ### QUEUE_DROP latches (R10, R158) -/

/-- A condition that is latched. -/
def Latched (n : ConditionIdx) (s : State) : Prop := s.conditions.latched[n] = true

/-- A rise of an enabled condition leaves it latched, and unlatches none. -/
theorem rise_latched {n m : ConditionIdx} {s : State} (h : Latched n s ∨ (n = m ∧ s.conditions.enables[n] = true)) :
    Latched n (rise m s) := by
  unfold rise State.canLatch
  split
  next can =>
    show (s.conditions.latched.set m true)[n] = true
    by_cases same : n = m
    · rw [same]; exact set_same ..
    · rw [set_other _ _ same]; exact h.resolve_right fun k => same k.1
  next cannot =>
    rcases h with h | ⟨rfl, enabled⟩
    · exact h
    · rw [enabled, Bool.true_and, Bool.not_eq_true, Bool.not_eq_false'] at cannot
      exact cannot

theorem riseAll_latched {n : ConditionIdx} {s : State} (ns : List ConditionIdx) (h : Latched n s) : Latched n (riseAll ns s) :=
  List.foldlRecOn ns _ h fun _ k _ _ => rise_latched (.inl k)

theorem queueTakes_latched {n : ConditionIdx} {s : State} (o : Offer) (h : Latched n s) : Latched n (queueTakes o s) := by
  unfold queueTakes
  dsimp only
  split
  · exact h
  · split
    · exact rise_latched (.inl h)
    · exact h
  · exact rise_latched (.inl h)

theorem takeWaiting_latched {n : ConditionIdx} {s : State} (h : Latched n s) : Latched n (takeWaiting s) := by
  unfold takeWaiting
  split
  · exact queueTakes_latched _ h
  · exact h

theorem takeSome_latched {n : ConditionIdx} {s : State} (k : Nat) (h : Latched n s) : Latched n (takeSome k s) := by
  induction k generalizing s with
  | zero => exact h
  | succ k ih => exact ih (takeWaiting_latched h)

theorem takeFreely_latched {n : ConditionIdx} {s : State} (h : Latched n s) : Latched n (takeFreely s) := by
  unfold takeFreely
  split
  · exact h
  · exact takeSome_latched _ h

/-- The first event that a step announces leaves its condition latched where it is enabled. -/
theorem announce_latched {n : ConditionIdx} {s : State} (os : List Offer) (ls : List ConditionIdx)
    (enabled : s.conditions.enables[n] = true) : Latched n (announce os [n] ls s) := by
  have latched : Latched n (rise n (followLive ls s)) := rise_latched (.inr ⟨rfl, enabled⟩)
  have risen := riseAll_latched (ls.filter fun n => s.source n && !s.conditions.live[n]) latched
  unfold announce settle makeKnown offerAll
  exact takeSome_latched _ (List.foldlRecOn os _ risen
    fun _ h o _ => queueTakes_latched o (takeFreely_latched h))

/-- A drop that is announced latches QUEUE_DROP where it is enabled. -/
theorem announceCard_latched {n : CardIdx} {t : Time} {b : CardContext} {m : ConditionIdx} {s : State}
    (enabled : s.conditions.enables[m] = true) : Latched m (announceCard n t b [m] s) := by
  unfold announceCard
  exact announce_latched _ _ (by simpa using enabled)

/-- The step of a card whose frame has been judged (R10, R28). -/
theorem takeFrame_judged {s : State} {n : CardIdx} {f : GoodFrame} (rest : List LaneEvent) {after : CardContext}
    {offered : Bool} (judged : judgeFrame n s.tables.active.cards[n] f s.cards[n] = (after, offered)) :
    takeFrame n f (s.setInbox (s.inbox.set n rest)) =
      if offered && s.frameQueue.length < 8 then
        announceCard n f.arrival s.cards[n] [] (cardPut n rest (s.frameQueue ++ [f.entry n]) after s)
      else if offered then announceCard n f.arrival s.cards[n] [cQueueDrop] (cardPut n rest s.frameQueue after.countDrop s)
      else announceCard n f.arrival s.cards[n] [] (cardPut n rest s.frameQueue after s) := by
  unfold takeFrame
  dsimp only [setInbox_tables, setInbox_cards]
  rw [judged]
  rfl

/-- Settles O12: the frame is judged accepted, and each of the three ends of its way is a step of its card. -/
theorem acceptedSampleFrameIsQueuedOrDropped : Obligations.AcceptedSampleFrameIsQueuedOrDropped := by
  intro s n f rest conditions _ waits accepts
  obtain ⟨queues, drops⟩ := acceptedFrame_queues accepts s.tables.active.cards[n]
  have fit := fitForQueue_iff (e := s.tables.active.cards[n]) (f := f.frame) queues
  have step := supervisorFrameTaken_waits waits
  rw [popInbox_waits waits, takeFrame_judged rest (judgeFrame_of_accepts accepts)] at step
  by_cases offered : fitForQueue s.tables.active.cards[n] f.frame (acceptedFrame s.tables.active.cards[n] f s.cards[n]) = true
  case neg =>
    rw [Bool.eq_false_iff.2 offered] at step
    have unfit := mt fit.2 offered
    exact ⟨_, _, _, step, announceCard_cardStep n f.arrival [] rest _ _ conditions.settled,
      fun h => absurd h unfit, fun h => absurd h unfit, fun _ => ⟨rfl, drops⟩⟩
  have fits := fit.1 offered
  by_cases room : s.frameQueue.length < 8
  · rw [if_pos (Bool.and_eq_true_iff.2 ⟨offered, decide_eq_true room⟩)] at step
    refine ⟨_, _, _, step, announceCard_cardStep n f.arrival [] rest _ _ conditions.settled,
      fun _ _ => ⟨?_, drops⟩, fun _ full => absurd room (Nat.not_lt.2 full), fun h => absurd fits h⟩
    rw [GoodFrame.entry, accepts.card]
  · rw [if_neg (by simp [room]), if_pos offered] at step
    refine ⟨_, _, _, step, announceCard_cardStep n f.arrival [cQueueDrop] rest _ _ conditions.settled,
      fun _ h => absurd h room, fun _ _ => ⟨rfl, congrArg raise drops, fun enabled => ?_⟩, fun h => absurd fits h⟩
    exact announceCard_latched enabled

end Sys2Proof.Proofs

namespace Sys2Proof.Proofs
open Sys2Proof Sys2Proof.Machine Sys2Proof.Laws

/-! ### Relays stored one after another: the evaluators and the records (R52, R54) -/

/-- Relays stored one after another move the changed set alone of the evaluators. -/
theorem foldl_storeRelay_evaluator (f : RelayIdx → RelayRuntime) (rs : List RelayIdx) (s : State) :
    ∃ changed, (rs.foldl (fun x r => storeRelay r (f r) x) s).evaluator = { s.evaluator with changed := changed } := by
  induction rs generalizing s with
  | nil => exact ⟨_, rfl⟩
  | cons r rs ih =>
    obtain ⟨changed, e⟩ := ih (storeRelay r (f r) s)
    refine ⟨changed, e.trans ?_⟩
    rw [storeRelay_evaluator]
    split <;> rfl

theorem relay_not_condition (r : RelayIdx) : ∀ m, Subject.relay r ≠ .condition m := fun _ => nofun

theorem relayOffer_other {q r : RelayIdx} (other : r ≠ q) (x : RelayRuntime) : OfOther (.relay q) (relayOffer r x) :=
  fun e => other (Subject.relay.inj e)

/-- A relay's record stored with its fault class as it was offers nothing. -/
theorem storeRelay_unoffered {s u : State} {r : RelayIdx} {x : RelayRuntime}
    (same : faultClass u.relays[r].status = faultClass x.status)
    (h : Holding (Unoffered s (.relay r)) (OfOther (.relay r)) u) :
    Holding (Unoffered s (.relay r)) (OfOther (.relay r)) (storeRelay r x u) := by
  have inv := unoffered_invariant (relay_not_condition r) s
  have stored : Holding (Unoffered s (.relay r)) (OfOther (.relay r)) (u.setRelays (u.relays.set r x)) :=
    inv.keeps_away [.relays] h (by intro p; cases p <;> simp [Part.same]) rfl
  unfold storeRelay
  dsimp only
  rw [if_pos same]
  split
  · exact stored
  · exact inv.setEvaluator _ stored

/-- A relay's record stored with another fault class offers its RELAY record (R54). -/
theorem storeRelay_offered {s u : State} {r : RelayIdx} {x : RelayRuntime}
    (changed : faultClass u.relays[r].status ≠ faultClass x.status)
    (h : Holding (Unoffered s (.relay r)) (OfOther (.relay r)) u) :
    Holding (OfferedOnce s (.relay r) (.relay x.status x.contact) x.statusTime) (OfOther (.relay r)) (storeRelay r x u) := by
  have inv := unoffered_invariant (relay_not_condition r) s
  have stored : Holding (Unoffered s (.relay r)) (OfOther (.relay r)) (u.setRelays (u.relays.set r x)) :=
    inv.keeps_away [.relays] h (by intro p; cases p <;> simp [Part.same]) rfl
  have status : u.relays[r].status ≠ x.status := fun e => changed (congrArg faultClass e)
  unfold storeRelay
  dsimp only
  rw [if_neg changed, if_neg status]
  exact makeKnown_offered (relay_not_condition r) (o := relayOffer r x) [] [cRelayFault] rfl (inv.setEvaluator _ stored)

/-- Of the relays stored one after another, one whose fault class stands offers no RELAY record. -/
theorem foldl_storeRelay_unoffered (f : RelayIdx → RelayRuntime) {rs : List RelayIdx} (distinct : rs.Nodup) {s u : State}
    {q : RelayIdx} (same : q ∈ rs → faultClass u.relays[q].status = faultClass (f q).status)
    (h : Holding (Unoffered s (.relay q)) (OfOther (.relay q)) u) :
    Holding (Unoffered s (.relay q)) (OfOther (.relay q)) (rs.foldl (fun x r => storeRelay r (f r) x) u) := by
  have inv := unoffered_invariant (relay_not_condition q) s
  induction rs generalizing u with
  | nil => exact h
  | cons r rs ih =>
    obtain ⟨new, rest⟩ := List.nodup_cons.1 distinct
    rw [List.foldl_cons]
    by_cases this : q = r
    · subst this
      exact ih rest (fun later => absurd later new) (storeRelay_unoffered (same List.mem_cons_self) h)
    · refine ih rest (fun later => ?_) (inv.storeRelay (relayOffer_other (Ne.symm this) _) h)
      rw [storeRelay_relays, set_other _ _ this]
      exact same (List.mem_cons_of_mem r later)

/-- Of the relays stored one after another, one whose fault class changes offers its RELAY record (R54). -/
theorem foldl_storeRelay_offered (f : RelayIdx → RelayRuntime) {rs : List RelayIdx} (distinct : rs.Nodup) {s u : State}
    {q : RelayIdx} (stored : q ∈ rs) (changed : faultClass u.relays[q].status ≠ faultClass (f q).status)
    (h : Holding (Unoffered s (.relay q)) (OfOther (.relay q)) u) :
    Holding (OfferedOnce s (.relay q) (.relay (f q).status (f q).contact) (f q).statusTime) (OfOther (.relay q))
      (rs.foldl (fun x r => storeRelay r (f r) x) u) := by
  induction rs generalizing u with
  | nil => exact absurd stored List.not_mem_nil
  | cons r rs ih =>
    obtain ⟨new, rest⟩ := List.nodup_cons.1 distinct
    rw [List.foldl_cons]
    by_cases this : q = r
    · subst this
      refine List.foldlRecOn rs _ (storeRelay_offered changed h) fun v hv r m => ?_
      have other : r ≠ q := fun e => new (e ▸ m)
      exact (offeredOnce_invariant (relay_not_condition q) s _ _).storeRelay (relayOffer_other other _) hv
    · refine ih rest ((List.mem_cons.1 stored).resolve_left this) ?_
        ((unoffered_invariant (relay_not_condition q) s).storeRelay (relayOffer_other (Ne.symm this) _) h)
      rw [storeRelay_relays, set_other _ _ this]
      exact changed

/-! ### A relay pass reads the state it begins with (R40, R43) -/

/-- The record of relay `r` after its sample in a relay pass of card `n` that begins in `s`. -/
def sampled (n : CardIdx) (t : Time) (s : State) (r : RelayIdx) : RelayRuntime :=
  sampleRelay s.tables.active.relays[r] (s.tables.active.classOf s.tables.active.relays[r])
    (rawDecode s.tables.active.relays[r] s.input.values[n] s.input.known[n]) t s.relays[r]

theorem foldl_advanceRelay_eq (n : CardIdx) (t : Time) (s : State) {rs : List RelayIdx} (distinct : rs.Nodup) {u : State}
    (tables : u.tables = s.tables) (input : u.input = s.input) (relays : ∀ r ∈ rs, u.relays[r] = s.relays[r]) :
    rs.foldl (advanceRelay n t) u = rs.foldl (fun x r => storeRelay r (sampled n t s r) x) u := by
  induction rs generalizing u with
  | nil => rfl
  | cons r rs ih =>
    obtain ⟨new, rest⟩ := List.nodup_cons.1 distinct
    have first : advanceRelay n t u r = storeRelay r (sampled n t s r) u := by
      unfold advanceRelay sampled
      dsimp only
      rw [tables, input, relays r List.mem_cons_self]
    rw [List.foldl_cons, List.foldl_cons, first]
    refine ih rest (by simpa using tables) (by simpa using input) fun x hx => ?_
    have other : x ≠ r := fun e => new (e ▸ hx)
    rw [storeRelay_relays, set_other _ _ other]
    exact relays x (List.mem_cons_of_mem r hx)

theorem relaysOf_nodup (b : Bank) (n : CardIdx) : (b.relaysOf n).Nodup := (List.nodup_finRange 768).filter _

theorem onCard_iff {e : RelayEntry} {n : CardIdx} : e.onCard n = true ↔ ∃ c, e.common = some c ∧ c.card = n := by
  unfold RelayEntry.onCard
  cases e.common <;> simp

theorem mem_relaysOf {b : Bank} {n : CardIdx} {r : RelayIdx} :
    r ∈ b.relaysOf n ↔ ∃ c, (b.relays[r]).common = some c ∧ c.card = n := by
  rw [← onCard_iff]
  exact List.mem_filter.trans (and_iff_right (List.mem_finRange r))

theorem relayPass_eq (n : CardIdx) (t : Time) (s : State) :
    relayPass n t s = (s.tables.active.relaysOf n).foldl (fun x r => storeRelay r (sampled n t s r) x) s :=
  foldl_advanceRelay_eq n t s (relaysOf_nodup _ n) rfl rfl fun _ _ => rfl

/-- After a relay pass each relay of the card has taken its sample, and no other relay has changed. -/
theorem relayPass_get (n : CardIdx) (t : Time) (s : State) (r : RelayIdx) :
    (relayPass n t s).relays[r] = if r ∈ s.tables.active.relaysOf n then sampled n t s r else s.relays[r] := by
  rw [relayPass_eq, foldl_storeRelay_get]

/-! ### A conversion with a relay pass (R13, R14) -/

/-- The state in which the relay pass of a converted frame begins. -/
def passBegun (q : QueueEntry) (rest : List QueueEntry) (s : State) : State :=
  beginPass (some q.card) (writeImage q (endPass ((s.setFrameQueue rest).setEngine
    { state := .converting q true, swapWaiting := false })))

theorem passBegun_changesOnly (q : QueueEntry) (rest : List QueueEntry) (s : State) :
    s.changesOnly (passBegun q rest s) [.frameQueue, .engine, .input, .evaluator] := by
  intro p; cases p <;> simp [Part.same, passBegun, beginPass, writeImage, endPass]

/-- CONVERSION_START of an IN_SERVICE card's frame runs the relay pass and the indication pass (R14). -/
theorem conversionStart_inService {s : State} {q : QueueEntry} {rest : List QueueEntry}
    (engine : s.engine = { state := .idle, swapWaiting := false }) (noEvent : s.evaluator.inFlight = false)
    (queue : s.frameQueue = q :: rest) (serving : (s.cards[q.card]).state = .inService) :
    exec .conversionStart s =
      .next (indicationPass q.arrival (relayPass q.card q.arrival (passBegun q rest s))) := by
  have runs : s.runsPass q = true := decide_eq_true serving
  rw [conversionStart_free engine noEvent queue, runs]
  unfold convert
  rw [show (endPass ((s.setFrameQueue rest).setEngine
    { state := .converting q true, swapWaiting := false })).cards[q.card].state = .inService from serving]
  rfl

/-- A pass of a card's relays and its indication pass offer the RELAY record of each relay whose fault class changes, and no
other RELAY record (R54). -/
theorem pass_record {s u : State} (n : CardIdx) (t : Time) (r : RelayIdx) (relays : u.relays = s.relays)
    (h : Holding (Unoffered s (.relay r)) (OfOther (.relay r)) u) :
    let v := indicationPass t (relayPass n t u)
    if faultClass (s.relays[r]).status = faultClass (v.relays[r]).status then s.NotOffered v (.relay r)
    else s.Offered v (.relay r) (.relay (v.relays[r]).status (v.relays[r]).contact) (v.relays[r]).statusTime := by
  have distinct := relaysOf_nodup u.tables.active n
  have pass := relayPass_eq n t u
  have after := relayPass_get n t u r
  rw [relays] at after
  intro v
  have stands : v.relays = (relayPass n t u).relays := indicationPass_relays t _
  rw [stands, after]
  have unoffered (same : r ∈ u.tables.active.relaysOf n → faultClass u.relays[r].status = faultClass (sampled n t u r).status) :
      s.NotOffered v (.relay r) :=
    ((unoffered_invariant (relay_not_condition r) s).indicationPass (fun _ _ _ => nofun)
      (pass ▸ foldl_storeRelay_unoffered _ distinct same h)).1.2
  rw [relays] at unoffered
  by_cases fault : faultClass (s.relays[r]).status = faultClass (sampled n t u r).status
  · rw [if_pos (by split; exacts [fault, rfl])]
    exact unoffered fun _ => fault
  by_cases mine : r ∈ u.tables.active.relaysOf n
  · rw [if_pos mine, if_neg fault]
    rw [← relays] at fault
    exact ((offeredOnce_invariant (relay_not_condition r) s _ _).indicationPass (fun _ _ _ => nofun)
      (pass ▸ foldl_storeRelay_offered _ distinct mine fault h)).1
  · rw [if_neg mine, if_pos rfl]
    exact unoffered fun m => absurd m mine

/-- After the pass that a converted frame begins, each relay of its card has taken its sample from the frame. -/
theorem passBegun_relays (q : QueueEntry) (rest : List QueueEntry) (s : State) (r : RelayIdx) :
    (relayPass q.card q.arrival (passBegun q rest s)).relays[r] =
      match (s.tables.active.relays[r]).common with
      | none => s.relays[r]
      | some c =>
        if c.card = q.card then
          sampleRelay s.tables.active.relays[r] s.tables.active.classes[c.flickerClass]
            (rawDecode s.tables.active.relays[r] q.samples s.input.known[q.card]) q.arrival s.relays[r]
        else s.relays[r] := by
  have tables : (passBegun q rest s).tables = s.tables := rfl
  have relays : (passBegun q rest s).relays = s.relays := rfl
  have values : (passBegun q rest s).input.values[q.card] = q.samples := set_same ..
  have known : (passBegun q rest s).input.known = s.input.known := rfl
  rw [relayPass_get, sampled, tables, relays, values, known]
  cases common : (s.tables.active.relays[r]).common with
  | none =>
    refine if_neg fun mine => ?_
    obtain ⟨c, some, -⟩ := mem_relaysOf.1 mine
    exact absurd (common.symm.trans some) nofun
  | some c =>
    have mine : r ∈ s.tables.active.relaysOf q.card ↔ c.card = q.card := by
      rw [mem_relaysOf, common]; simp
    simp only [mine, Bank.classOf, common]

/-- Settles O16: the pass is the relay pass of the state with the frame's values written, followed by its indication pass. -/
theorem conversionInServiceSamplesTheCardsRelays : Obligations.ConversionInServiceSamplesTheCardsRelays := by
  intro s q rest engine noEvent queue serving
  have begun := passBegun_changesOnly q rest s
  refine ⟨_, conversionStart_inService engine noEvent queue serving, ?_, ?_, ?_, ?_, fun r => ?_, fun none r => ?_, ?_⟩
  · simp; rfl
  · simp; rfl
  · simp; rfl
  · obtain ⟨changed, e⟩ := foldl_storeRelay_evaluator (sampled q.card q.arrival (passBegun q rest s))
      ((passBegun q rest s).tables.active.relaysOf q.card) (passBegun q rest s)
    rw [indicationPass_evaluator, relayPass_eq, e, ← noEvent]
    rfl
  · rw [indicationPass_relays]; exact passBegun_relays q rest s r
  · exact pass_record q.card q.arrival r rfl
      ((unoffered_invariant (relay_not_condition r) s).keeps_away _ (unoffered_refl _ none) begun rfl)
  · exact changesOnly_then (changesOnly_then (changesOnly_mono _ begun) (relayPass_changesOnly q.card q.arrival _))
      (indicationPass_changesOnly q.arrival _)

end Sys2Proof.Proofs

namespace Sys2Proof.Proofs
open Sys2Proof Sys2Proof.Machine Sys2Proof.Laws

/-! ### Levels that follow their sources, and conditions that rise together (R157, R158) -/

/-- The conditions of the list take the values of their sources, and no other does. -/
theorem foldl_set_get (f : ConditionIdx → Bool) (ns : List ConditionIdx) (v : Vector Bool 11) (m : ConditionIdx) :
    (ns.foldl (fun v (n : ConditionIdx) => v.set n (f n)) v)[m] = if m ∈ ns then f m else v[m] := by
  induction ns generalizing v with
  | nil => rfl
  | cons n ns ih =>
    rw [List.foldl_cons, ih]
    by_cases later : m ∈ ns
    · rw [if_pos later, if_pos (List.mem_cons_of_mem n later)]
    by_cases this : m = n
    · subst this
      rw [if_neg later, if_pos List.mem_cons_self, set_same]
    · rw [if_neg later, if_neg (by simp [this, later]), set_other _ _ this]

theorem followLive_live {ns : List ConditionIdx} {m : ConditionIdx} (h : m ∈ ns) (s : State) :
    (followLive ns s).conditions.live[m] = s.source m :=
  (foldl_set_get s.source ns s.conditions.live m).trans (if_pos h)

/-- From `s` to `t` the conditions `ns` have risen: each that is enabled is latched, and its CONDITION record waits. -/
structure Risen (s : State) (ns : List ConditionIdx) (t : State) : Prop where
  enables : t.conditions.enables = s.conditions.enables
  live : t.conditions.live = s.conditions.live
  latched : ∀ m, t.conditions.latched[m] = (s.conditions.latched[m] || decide (m ∈ ns) && s.conditions.enables[m])
  waiting : t.conditions.waiting =
    s.conditions.waiting ++ (ns.filter fun n => s.conditions.enables[n]).map s.conditionOffer
  frame : s.changesOnly t [.conditions]

/-- The rise of one condition that is not latched. -/
theorem rise_risen {n : ConditionIdx} {s : State} (fresh : s.conditions.latched[n] = false) : Risen s [n] (rise n s) := by
  have can : s.canLatch n = s.conditions.enables[n] := by rw [State.canLatch, fresh]; exact Bool.and_true _
  have frame := rise_changesOnly n s
  unfold rise at frame ⊢
  rw [can] at frame ⊢
  by_cases enabled : s.conditions.enables[n] = true
  · rw [if_pos enabled] at frame ⊢
    refine ⟨rfl, rfl, fun m => ?_, ?_, frame⟩
    · show (s.conditions.latched.set n true)[m] = _
      by_cases same : m = n
      · subst same; rw [set_same, fresh, enabled]; simp
      · rw [set_other _ _ same]; simp [same]
    · rw [List.filter_cons_of_pos (p := fun n : ConditionIdx => s.conditions.enables[n]) enabled]; rfl
  · rw [if_neg enabled] at frame ⊢
    refine ⟨rfl, rfl, fun m => ?_, ?_, frame⟩
    · by_cases same : m = n
      · subst same; rw [Bool.eq_false_iff.2 enabled]; simp
      · simp [same]
    · rw [List.filter_cons_of_neg (p := fun n : ConditionIdx => s.conditions.enables[n]) enabled]; simp

/-- Several conditions, none of them latched, rise together. -/
theorem riseAll_risen {ns : List ConditionIdx} (distinct : ns.Nodup) {s : State}
    (fresh : ∀ n ∈ ns, s.conditions.latched[n] = false) : Risen s ns (riseAll ns s) := by
  induction ns generalizing s with
  | nil => exact ⟨rfl, rfl, fun m => by simp [riseAll], by simp [riseAll], changesOnly_refl s _⟩
  | cons n ns ih =>
    obtain ⟨new, rest⟩ := List.nodup_cons.1 distinct
    have first := rise_risen (fresh n List.mem_cons_self)
    have time : (rise n s).time = s.time := first.frame .time (by decide)
    have later := ih rest (s := rise n s) fun m hm => by
      have other : m ≠ n := fun e => new (e ▸ hm)
      rw [first.latched, fresh m (List.mem_cons_of_mem n hm)]
      simp [other]
    refine ⟨later.enables.trans first.enables, later.live.trans first.live, fun m => ?_, ?_,
      changesOnly_trans first.frame later.frame⟩
    · refine (later.latched m).trans ?_
      rw [first.latched, first.enables]
      by_cases this : m = n <;> by_cases m ∈ ns <;> simp_all
    · refine later.waiting.trans ?_
      rw [first.waiting, first.enables]
      have offers : (rise n s).conditionOffer = s.conditionOffer := by
        funext m; simp only [State.conditionOffer, time]
      rw [offers, List.append_assoc, ← List.map_append, ← List.filter_append]
      rfl

/-! ### The queue takes the CONDITION records that wait (R99, R100) -/

/-- From `s` to `t` the Report Queue has appended the offers `os`, and none waits any more. -/
structure Appended (s : State) (os : List Offer) (t : State) : Prop where
  report : t.report = { s.report with records := s.report.records ++ os.map (newRecord s.time.valid) }
  conditions : t.conditions = { s.conditions with waiting := [] }
  frame : s.changesOnly t [.report, .conditions]

/-- One offer of a new subject, with room below the threshold of REPORT_HIGH. -/
theorem queueTakes_appended {o : Offer} {s : State} (new : ∀ r ∈ s.report.records, r.subject ≠ o.subject)
    (room : s.report.records.length < 192) :
    queueTakes o s = s.setReport { s.report with records := s.report.records ++ [newRecord s.time.valid o] } := by
  have took := takeOffer_appended (valid := s.time.valid) new (Nat.lt_trans room (by decide))
  have below : (s.report.high || decide (s.report.records.length + 1 = 193)) = s.report.high := by
    rw [decide_eq_false (by omega), Bool.or_false]
  rw [below] at took
  unfold queueTakes
  rw [took]
  exact if_neg (by simp)

/-- Offers of new and distinct subjects that wait are all taken, in their order. -/
theorem takeSome_appended {os : List Offer} {k : Nat} (enough : os.length ≤ k) {s : State}
    (waiting : s.conditions.waiting = os) (distinct : (os.map Offer.subject).Nodup)
    (new : ∀ o ∈ os, ∀ r ∈ s.report.records, r.subject ≠ o.subject) (room : s.report.records.length + os.length ≤ 192) :
    Appended s os (takeSome k s) := by
  induction os generalizing s k with
  | nil =>
    rw [takeSome_of_none_waiting k s waiting]
    exact ⟨by simp, by rw [← waiting], changesOnly_refl s _⟩
  | cons o os ih =>
    obtain ⟨k, rfl⟩ : ∃ j, k = j + 1 := ⟨k - 1, by simp at enough; omega⟩
    simp only [List.length_cons, List.map_cons, List.nodup_cons, List.forall_mem_cons] at enough room distinct new
    have first : takeWaiting s = (s.setWaiting os).setReport
        { s.report with records := s.report.records ++ [newRecord s.time.valid o] } := by
      unfold takeWaiting
      rw [waiting]
      exact queueTakes_appended (s := s.setWaiting os) new.1 (by simp; omega)
    have later := ih (k := k) (s := takeWaiting s) (by omega) (by rw [first]; rfl) distinct.2 (fun o' ho r hr => ?_) ?_
    · show Appended s (o :: os) (takeSome k (takeWaiting s))
      rw [first] at later ⊢
      refine ⟨later.report.trans (by simp), later.conditions.trans rfl, changesOnly_trans ?_ later.frame⟩
      intro p; cases p <;> simp [Part.same]
    · rw [first] at hr
      rcases List.mem_append.1 hr with m | m
      · exact new.2 o' ho r m
      · rw [List.mem_singleton.1 m]
        exact fun e => distinct.1 (List.mem_map.2 ⟨o', ho, e.symm⟩)
    · rw [first]; simp; omega

theorem settle_appended {s : State} (distinct : (s.conditions.waiting.map Offer.subject).Nodup)
    (new : ∀ o ∈ s.conditions.waiting, ∀ r ∈ s.report.records, r.subject ≠ o.subject)
    (room : s.report.records.length + s.conditions.waiting.length ≤ 192) :
    Appended s s.conditions.waiting (settle s) :=
  takeSome_appended (Nat.le_add_right _ 2) rfl distinct new room

/-! ### The Condition Unit's own reset (R157, R161) -/

/-- The Condition Unit's reset, where no CONDITION record waits and the Report Queue holds none and has room. -/
structure ConditionsReset (s t : State) : Prop where
  waiting : t.conditions.waiting = []
  enables : t.conditions.enables = s.conditions.enables
  live : ∀ n, t.conditions.live[n] = s.source n
  latched : ∀ n, t.conditions.latched[n] = (s.conditions.enables[n] && s.source n)
  report : t.report = { s.report with
    records := s.report.records ++
      ((List.finRange 11).filter fun n => t.conditions.latched[n]).map fun n =>
        newRecord s.time.valid (s.conditionOffer n) }

/-- The Condition Unit with its latches cleared and its live values as the sources stand. -/
def conditionsFollowed (s : State) : State :=
  followLive allConditions (s.setConditions { s.conditions with latched := Vector.replicate 11 false })

/-- The Condition Unit once its live conditions have risen. -/
def conditionsRisen (s : State) : State :=
  riseAll (allConditions.filter fun n => (conditionsFollowed s).conditions.live[n]) (conditionsFollowed s)

theorem restartConditions_eq (s : State) : restartConditions s = settle (conditionsRisen s) := rfl

theorem conditionsFollowed_get (s : State) (n : ConditionIdx) :
    (conditionsFollowed s).conditions.live[n] = s.source n ∧ (conditionsFollowed s).conditions.latched[n] = false :=
  ⟨followLive_live (List.mem_finRange n) _, Vector.getElem_replicate n.isLt⟩

theorem conditionsRisen_risen (s : State) :
    Risen (conditionsFollowed s) (allConditions.filter fun n => (conditionsFollowed s).conditions.live[n])
      (conditionsRisen s) :=
  riseAll_risen ((List.nodup_finRange 11).filter _) fun n _ => (conditionsFollowed_get s n).2

/-- The enabled conditions that are live are latched. -/
theorem conditionsRisen_latched (s : State) (n : ConditionIdx) :
    (conditionsRisen s).conditions.latched[n] = (s.conditions.enables[n] && s.source n) := by
  obtain ⟨live, unlatched⟩ := conditionsFollowed_get s n
  have mem : decide (n ∈ allConditions.filter fun n => (conditionsFollowed s).conditions.live[n]) = s.source n := by
    rw [← live, Bool.eq_iff_iff, decide_eq_true_eq, List.mem_filter]
    exact and_iff_right (List.mem_finRange n)
  have enables : (conditionsFollowed s).conditions.enables = s.conditions.enables := rfl
  rw [(conditionsRisen_risen s).latched, mem, unlatched, enables, Bool.false_or, Bool.and_comm]

/-- The records that wait are those of the latched conditions, in ascending number. -/
theorem conditionsRisen_waiting {s : State} (none : s.conditions.waiting = []) :
    (conditionsRisen s).conditions.waiting =
      ((List.finRange 11).filter fun n => (conditionsRisen s).conditions.latched[n]).map s.conditionOffer := by
  have before : (conditionsFollowed s).conditions.waiting = [] := none
  rw [(conditionsRisen_risen s).waiting, before, List.nil_append, List.filter_filter]
  refine congrArg (List.map _) (List.filter_congr fun n _ => ?_)
  rw [conditionsRisen_latched, (conditionsFollowed_get s n).1]
  rfl

/-- The records of the latched conditions taken by a Report Queue that holds none of them and has room. -/
theorem settle_conditionsReset {s r : State} (enables : r.conditions.enables = s.conditions.enables)
    (live : ∀ n, r.conditions.live[n] = s.source n)
    (latched : ∀ n, r.conditions.latched[n] = (s.conditions.enables[n] && s.source n))
    (waiting : r.conditions.waiting = ((List.finRange 11).filter fun n => r.conditions.latched[n]).map s.conditionOffer)
    (time : r.time = s.time) (report : r.report = s.report) (room : s.report.records.length ≤ 181)
    (new : ∀ x ∈ s.report.records, ∀ n, x.subject ≠ .condition n) : ConditionsReset s (settle r) := by
  have few : r.conditions.waiting.length ≤ 11 := by
    rw [waiting, List.length_map]
    exact (List.length_filter_le _ _).trans (List.length_finRange).le
  have settled : Appended r r.conditions.waiting (settle r) := by
    refine settle_appended ?_ (fun o ho x hx => ?_) (by rw [report]; omega)
    · rw [waiting, List.map_map]
      exact ((List.nodup_finRange 11).filter _).map fun _ _ e => Subject.condition.inj e
    · rw [waiting] at ho
      obtain ⟨n, -, rfl⟩ := List.mem_map.1 ho
      rw [report] at hx
      exact new x hx n
  have conditions := settled.conditions
  have records := settled.report
  rw [report, time, waiting, List.map_map] at records
  refine ⟨by rw [conditions], by rw [conditions]; exact enables, fun n => ?_, fun n => ?_, ?_⟩
  · rw [conditions]; exact live n
  · rw [conditions]; exact latched n
  · rw [conditions]; exact records

theorem restartConditions_reset {s : State} (none : s.conditions.waiting = [])
    (room : s.report.records.length ≤ 181) (new : ∀ x ∈ s.report.records, ∀ n, x.subject ≠ .condition n) :
    ConditionsReset s (restartConditions s) := by
  have followed : s.changesOnly (conditionsFollowed s) [.conditions] := by
    intro p; cases p <;> simp [Part.same, conditionsFollowed]
  have rises := conditionsRisen_risen s
  have frame := changesOnly_trans followed rises.frame
  rw [restartConditions_eq]
  exact settle_conditionsReset (rises.enables.trans rfl) (fun n => by rw [rises.live]; exact (conditionsFollowed_get s n).1)
    (conditionsRisen_latched s) (conditionsRisen_waiting none) (frame .time (by decide)) (frame .report (by decide)) room new

end Sys2Proof.Proofs

namespace Sys2Proof.Proofs
open Sys2Proof Sys2Proof.Machine Sys2Proof.Laws

/-! ### Each block after its reset -/

theorem restartBlocks_lane (s : State) (n : CardIdx) : (restartBlocks s).lanes[n] = s.lanes[n].restarted :=
  Vector.getElem_ofFn n.isLt

theorem restartBlocks_card (s : State) (n : CardIdx) :
    (restartBlocks s).cards[n] = restartedCard s.tables.active.cards[n] s.lanes[n].carrier :=
  Vector.getElem_ofFn n.isLt

theorem restartBlocks_input (s : State) (n : CardIdx) :
    (restartBlocks s).input.values[n] = 0 ∧ (restartBlocks s).input.known[n] = 0 :=
  ⟨Vector.getElem_replicate n.isLt, Vector.getElem_replicate n.isLt⟩

theorem restartBlocks_relay (s : State) (r : RelayIdx) : (restartBlocks s).relays[r] = .reset s.time.counter :=
  Vector.getElem_replicate r.isLt

theorem restartBlocks_indication (s : State) (i : IndicationIdx) :
    (restartBlocks s).indications[i] =
      restartedIndication s.tables.active.indications[i] s.time.counter s.indications[i] := by
  simp [restartBlocks, restartLink, restartDeskSide, restartEvaluators, restartSamplePath]

theorem restartBlocks_report (s : State) : (restartBlocks s).report = .afterReset s.time.counter s.time.valid := rfl

theorem restartBlocks_time (s : State) : (restartBlocks s).time = s.time := restartBlocks_changesOnly s .time (by decide)

theorem restartBlocks_conditions (s : State) : (restartBlocks s).conditions = s.conditions := by
  simp [restartBlocks, restartLink, restartDeskSide, restartEvaluators, restartSamplePath]

theorem restartBlocks_link (s : State) : (restartBlocks s).link =
    { s.link with
      forward := [], downward := [], responses := [], promises := 0, deferred := []
      requests := s.link.requests.map fun q => { q with promised := false }
      counters := .zero, lastGranted := .own } := by
  simp [restartBlocks, restartLink, restartDeskSide, restartEvaluators, restartSamplePath]

theorem placeEntry_link (e : ResponseEntry) (s : State) :
    (placeEntry e s).link = { s.link with responses := s.link.responses ++ [e] } := rfl

/-! ### The sources of the conditions after RESTART's resets (R157) -/

/-- No card is IN_SERVICE after a reset, so every enabled card is down. -/
theorem restartBlocks_cardsDown (s : State) :
    0 < (restartBlocks s).cardsDown ↔ ∃ c : CardIdx, (s.tables.active.cards[c]).enable = true := by
  have down : ∀ c : CardIdx, ((restartBlocks s).tables.active.cards[c].enable &&
      (restartBlocks s).cards[c].state != .inService) = s.tables.active.cards[c].enable := fun c => by
    have tables : (restartBlocks s).tables.active = s.tables.active := rfl
    rw [restartBlocks_card, tables]
    unfold restartedCard startState
    cases s.tables.active.cards[c].enable <;> cases s.lanes[c].carrier <;> rfl
  unfold State.cardsDown
  rw [List.countP_pos_iff]
  constructor
  · rintro ⟨c, -, h⟩
    exact ⟨c, (down c).symm.trans h⟩
  · rintro ⟨c, h⟩
    exact ⟨c, List.mem_finRange c, (down c).trans h⟩

theorem exists_get_of_mem_toList {α : Type} {k : Nat} {v : Vector α k} {a : α} (h : a ∈ v.toList) :
    ∃ n : Fin k, v[n] = a := by
  obtain ⟨i, bound, e⟩ := Vector.getElem_of_mem (Vector.mem_toList_iff.1 h)
  exact ⟨⟨i, bound⟩, e⟩

/-- No card fails proving after a reset. -/
theorem restartBlocks_cardsFailing (s : State) : (restartBlocks s).cardsFailing = 0 := by
  refine List.countP_eq_zero.2 fun c hc => ?_
  obtain ⟨n, rfl⟩ := exists_get_of_mem_toList hc
  clear hc -- else the bounds of the indices below are sought in `hc`
  rw [restartBlocks_card]
  exact Bool.false_ne_true

/-- No relay is at fault after a reset. -/
theorem restartBlocks_relaysAtFault (s : State) : (restartBlocks s).relaysAtFault = 0 := by
  refine List.countP_eq_zero.2 fun x hx => ?_
  obtain ⟨r, rfl⟩ := exists_get_of_mem_toList hx
  clear hx -- as there
  rw [restartBlocks_relay]
  exact Bool.false_ne_true

/-- After the resets CARD_DOWN is live where a card is enabled, TIME_INVALID where the Time Base is not valid, and no other
condition is. -/
theorem restartBlocks_source (s : State) (n : ConditionIdx) :
    (restartBlocks s).source n = true ↔
      (n = cCardDown ∧ ∃ c : CardIdx, (s.tables.active.cards[c]).enable = true) ∨ (n = cTimeInvalid ∧ s.time.valid = false) := by
  have high : (restartBlocks s).report.high = false := rfl
  unfold State.source
  rw [restartBlocks_cardsFailing, restartBlocks_relaysAtFault, high, restartBlocks_time]
  by_cases card : n = cCardDown
  · rw [if_pos card, decide_eq_true_eq, restartBlocks_cardsDown, card]
    exact (or_iff_left fun h => absurd h.1 (by decide)).trans (and_iff_right rfl) |>.symm
  rw [if_neg card, or_iff_right fun h => card h.1]
  by_cases invalid : n = cTimeInvalid
  · subst invalid
    exact (Bool.not_eq_true' _).to_iff.trans (and_iff_right rfl).symm
  · simp [invalid]

/-! ### RESTART -/

theorem handing_restart {q : Request} (direct : q.broadcast = false) (payload : q.payload = [0x03#8]) :
    handing q = .toOwner ∧ hasCode restartCode q = true := by
  have code : q.code = restartCode := by rw [Request.code, payload]; rfl
  refine ⟨?_, decide_eq_true code⟩
  unfold handing
  rw [direct, code, payload]
  rfl

theorem placeEntry_requests (e : ResponseEntry) (s : State) : (placeEntry e s).link.requests = s.link.requests := rfl

/-- RESTART where its request stands alone: the answer follows the resets into the emptied Response Queue. -/
theorem restart_serves {s : State} {q : Request} (serves : s.Serves q) (payload : q.payload = [0x03#8]) :
    exec .restart s = .next (placeEntry
      ⟨responseFrame (restartAll (dropRequest s)) q.source q.tag restartCode .ok [], false⟩ (restartAll (dropRequest s))) := by
  obtain ⟨owner, mine⟩ := handing_restart serves.direct payload
  have requests : (restartAll (dropRequest s)).link.requests = [] := by
    have link : (restartAll (dropRequest s)).link = (restartBlocks (dropRequest s)).link :=
      restartAll_same _ .link (by decide)
    have dropped : (dropRequest s).link.requests = [] := congrArg List.tail serves.alone
    rw [link, restartBlocks_link, dropped]
    rfl
  have served := serve_head (hasCode restartCode) actRestart s q [] serves.swap serves.alone owner mine
  have acts : actRestart q (dropRequest s) = placeEntry
      ⟨responseFrame (restartAll (dropRequest s)) q.source q.tag restartCode .ok [], false⟩ (restartAll (dropRequest s)) :=
    if_pos serves.promised
  rw [acts, handOn_nil _ ((placeEntry_requests ..).trans requests)] at served
  exact congrArg Host.Outcome.next served

/-- The conditions after RESTART's resets, behind the MARKER RESTARTED (R109, R161). -/
theorem restartAll_conditions {s : State} (none : s.conditions.waiting = []) :
    ConditionsReset (restartBlocks s) (restartAll s) := by
  rw [restartAll_eq]
  refine restartConditions_reset (by rw [restartBlocks_conditions, none]) ?_ fun x hx n => ?_
  · rw [restartBlocks_report]; exact (by decide : 1 ≤ 181)
  · rw [restartBlocks_report] at hx
    rw [List.mem_singleton.1 hx]
    exact nofun

/-- Settles O51: every block but the Report Queue and the Condition Unit stands as its own reset left it. -/
theorem restartResetsEveryBlock : Obligations.RestartResetsEveryBlock := by
  intro s q none serves payload
  have conditions := restartAll_conditions (s := dropRequest s) none
  have same := restartAll_same (dropRequest s)
  have step := restart_serves serves payload
  generalize restartAll (dropRequest s) = r at conditions same step
  have lanes : r.lanes = _ := same .lanes (by decide)
  have cards : r.cards = _ := same .cards (by decide)
  have queue : r.frameQueue = _ := same .frameQueue (by decide)
  have engine : r.engine = _ := same .engine (by decide)
  have input : r.input = _ := same .input (by decide)
  have relays : r.relays = _ := same .relays (by decide)
  have evaluator : r.evaluator = _ := same .evaluator (by decide)
  have indications : r.indications = _ := same .indications (by decide)
  have reader : r.reader = _ := same .reader (by decide)
  have tables : r.tables = _ := same .tables (by decide)
  have link : r.link = _ := same .link (by decide)
  have time : r.time = _ := same .time (by decide)
  have inbox : r.inbox = _ := same .inbox (by decide)
  have choices : r.choices = _ := same .choices (by decide)
  have pending : r.pending = _ := same .pending (by decide)
  refine ⟨_, step, fun n => ?_, fun n => ?_, queue, engine, fun n => ?_, fun n => ?_, evaluator, fun i => ?_,
    fun n => ⟨?_, ?_, ?_⟩, conditions.waiting, ?_, reader, tables, ?_, ?_, ?_, ?_, ?_⟩
  · show r.lanes[n] = _
    rw [lanes, restartBlocks_lane]
    rfl
  · show r.cards[n] = _
    rw [cards, restartBlocks_card]
    rfl
  · show r.input.values[n] = 0 ∧ r.input.known[n] = 0
    rw [input]
    exact restartBlocks_input _ n
  · show r.relays[n] = _
    rw [relays, restartBlocks_relay]
    rfl
  · show (_ → r.indications[i] = _) ∧ ∀ e, _ → r.indications[i] = _
    rw [indications, restartBlocks_indication]
    exact ⟨fun none => congrArg (restartedIndication · _ _) none, fun e some => congrArg (restartedIndication · _ _) some⟩
  · show r.conditions.enables[n] = _
    rw [conditions.enables, restartBlocks_conditions]
    rfl
  · show r.conditions.live[n] = true ↔ _
    rw [conditions.live, restartBlocks_source]
    exact Iff.rfl
  · show r.conditions.latched[n] = true ↔ _
    rw [conditions.latched, Bool.and_eq_true, restartBlocks_source, restartBlocks_conditions]
    exact Iff.rfl
  · show r.report = _
    rw [conditions.report, restartBlocks_report, restartBlocks_time]
    simp only [State.conditionOffer, restartBlocks_time]
    rfl
  · rw [placeEntry_link, responseFrame, link, restartBlocks_link]
    have requests : (dropRequest s).link.requests = [] := congrArg List.tail serves.alone
    rw [requests]
    rfl
  · exact time.trans (restartBlocks_time _)
  · exact inbox.trans (restartBlocks_changesOnly _ .inbox (by decide))
  · exact choices.trans (restartBlocks_changesOnly _ .choices (by decide))
  · exact pending.trans (restartBlocks_changesOnly _ .pending (by decide))

end Sys2Proof.Proofs

namespace Sys2Proof.Proofs
open Sys2Proof Sys2Proof.Machine Sys2Proof.Laws

/-! ### What happens to one card keeps the card's law (R18, R19, R22 to R24, R26, R27, R30 to R32, R36) -/

/-- What is marked within the mask keeps the map within the mask (R30, R32). -/
theorem or_within_mask {map mark mask : Inputs} (within : map &&& ~~~mask = 0) (marked : mark &&& ~~~mask = 0) :
    (map ||| mark) &&& ~~~mask = 0 := by
  rw [BitVec.and_comm, BitVec.and_or_distrib_left, BitVec.and_comm, within, BitVec.and_comm, marked]
  exact BitVec.or_zero

section
variable {e : CardEntry} {c : CardContext} (h : CardLaw e c)
include h

/-- A card that is not WAITING has no readmission run (R23). -/
theorem noReadmission_of_cardLaw (notWaiting : c.state ≠ .waiting) : c.readmissionRun = 0 :=
  Decidable.of_not_not fun run => notWaiting (h.readmitting run)

/-- A card that is not OFF stays enabled, whichever other state it takes. -/
theorem stays_on_of_cardLaw {st : CardState} (was : c.state ≠ .off) (is : st ≠ .off) : st = .off ↔ e.enable = false :=
  iff_of_false is (mt h.off.2 was)

theorem counters_cardLaw (k : CardCounters) : CardLaw e { c with counters := k } := { h with }

theorem clearProving_cardLaw : CardLaw e c.clearProving :=
  { h with map := BitVec.zero_and, cleanRun := Nat.zero_le _ }

theorem stopped_cardLaw {st : CardState} (off : st = .off ↔ e.enable = false) : CardLaw e (c.stopped st) :=
  { h with
    off, window := nofun, times := nofun, earlyRun := Nat.zero_le _, readmission := Nat.zero_le _
    readmitting := fun run => absurd rfl run }

theorem mismatched_cardLaw (reason : CardFault) (was : c.state ≠ .off) : CardLaw e (mismatched reason c) :=
  stopped_cardLaw (counters_cardLaw h _) (stays_on_of_cardLaw h was nofun)

theorem earlyFrame_cardLaw (was : c.state ≠ .off) : CardLaw e (earlyFrame c) := by
  unfold earlyFrame
  dsimp only
  split
  · exact stopped_cardLaw (counters_cardLaw h _) (stays_on_of_cardLaw h was nofun)
  · exact { h with earlyRun := by dsimp only; omega }

theorem expired_cardLaw (timed : c.state.timed = true) : CardLaw e (expired c) := by
  have was : c.state ≠ .off := fun off => by rw [off] at timed; exact nomatch timed
  unfold expired
  by_cases waiting : c.state = .waiting
  · simp only [if_pos waiting]
    exact { h with
      off := stays_on_of_cardLaw h was nofun, window := nofun, times := nofun, earlyRun := Nat.zero_le _
      readmission := Nat.zero_le _
      readmitting := fun run => absurd rfl run }
  · simp only [if_neg waiting]
    exact { h with
      off := stays_on_of_cardLaw h was nofun, window := nofun, times := nofun, earlyRun := Nat.zero_le _
      readmitting := fun run => absurd (noReadmission_of_cardLaw h waiting) run }

theorem carrierLost_cardLaw : CardLaw e (carrierLost e c) := by
  have lost : CardLaw e (if c.state.supervised then c.stopped .absent else c) := by
    split
    next supervised =>
      have was : c.state ≠ .off := fun off => by rw [off] at supervised; exact nomatch supervised
      exact stopped_cardLaw h (stays_on_of_cardLaw h was nofun)
    next => exact h
  unfold carrierLost
  dsimp only
  split
  · exact counters_cardLaw (clearProving_cardLaw lost) _
  · exact lost

theorem carrierFound_cardLaw : CardLaw e (carrierFound c) := by
  unfold carrierFound
  split
  next absent =>
    exact { h with
      off := stays_on_of_cardLaw h (by rw [absent]; exact nofun) nofun, window := nofun, times := nofun
      readmission := Nat.zero_le _
      readmitting := fun run => absurd rfl run }
  next => exact h

theorem readmitted_cardLaw (carrier : Bool) : CardLaw e (readmitted carrier c) := by
  unfold readmitted
  split
  next reason faulty =>
    refine stopped_cardLaw h (stays_on_of_cardLaw h (by rw [faulty]; exact nofun) ?_)
    cases carrier <;> exact nofun
  next => exact h

/-- A TIME SET moves the three times of a window alike (R22). -/
theorem moved_cardLaw (amount : Time) : CardLaw e (c.moved amount) where
  off := h.off
  map := h.map
  window some := h.window (by simpa [CardContext.moved] using some)
  times w some := by
    obtain ⟨v, was, rfl⟩ := Option.map_eq_some_iff.1 some
    obtain ⟨opens, closes⟩ := h.times v was
    dsimp only
    rw [opens, closes]
    exact ⟨add_right_comm .., add_right_comm ..⟩
  earlyRun := h.earlyRun
  readmission := h.readmission
  readmitting := h.readmitting
  cleanRun := h.cleanRun

theorem provingCheck_cardLaw (f : CardFrame) : CardLaw e (provingCheck e f c) := by
  have mask : e.mask &&& ~~~e.mask = 0 := BitVec.and_not_self _
  unfold provingCheck
  split
  · exact { h with map := or_within_mask h.map mask, cleanRun := Nat.zero_le _ }
  split
  · split
    · unfold cleanFrame
      split
      · exact { h with map := BitVec.zero_and, cleanRun := (by decide : 8 ≤ 255) }
      · exact { h with cleanRun := Nat.min_le_left .. }
    · have mismatch : e.mismatch f &&& ~~~e.mask = 0 := by
        rw [CardEntry.mismatch, BitVec.and_assoc, mask]; exact BitVec.and_zero
      exact { h with map := or_within_mask h.map mismatch, cleanRun := Nat.zero_le _ }
  · exact h

end

/-- The proving check does not look at the window. -/
theorem provingCheck_window (e : CardEntry) (f : CardFrame) (c : CardContext) (w : Option CardWindow) :
    provingCheck e f { c with window := w } = { provingCheck e f c with window := w } := by
  unfold provingCheck
  split
  · rfl
  split
  · split
    · unfold cleanFrame; dsimp only; split <;> rfl
    · rfl
  · rfl

/-- The Card Supervisor examines frames in four of the states (R21). -/
theorem supervised_iff {st : CardState} :
    st.supervised = true ↔ st = .waiting ∨ st = .inService ∨ st = .suspect ∨ st = .late := by
  cases st <;> simp [CardState.supervised]

/-- R23's move keeps the law of a supervised card whose window has just been opened. -/
theorem acceptedMove_cardLaw {e : CardEntry} {c : CardContext} (cf : Bool) (t : Time)
    (supervised : c.state.supervised = true) (opened : c.window = some (windowAt e t))
    (h : CardLaw e { c with window := none }) : CardLaw e (acceptedMove cf c) := by
  have service : serviceState cf ≠ .off ∧
      (serviceState cf = .waiting ∨ serviceState cf = .inService ∨ serviceState cf = .suspect) := by
    cases cf <;> decide
  have times : ∀ w, c.window = some w →
      w.openTime = w.reference + BitVec.ofNat 32 e.windowOpen ∧
        w.closeTime = w.reference + BitVec.ofNat 32 e.windowClose := by
    intro w some
    obtain rfl := Option.some.inj (opened.symm.trans some)
    exact ⟨rfl, rfl⟩
  have on : ∀ {st : CardState}, st ≠ .off → (st = .off ↔ e.enable = false) := fun {st} =>
    stays_on_of_cardLaw h fun off : c.state = .off => by rw [off] at supervised; exact nomatch supervised
  unfold acceptedMove
  rcases supervised_iff.1 supervised with was | was | was | was <;> rw [was]
  case inl =>
    dsimp only
    split
    · exact { h with
        off := on nofun, window := fun _ => .inl rfl, times, readmission := by dsimp only; omega
        readmitting := fun _ => rfl }
    · exact { h with
        off := on service.1, window := fun _ => service.2, times
        readmission := Nat.zero_le _, readmitting := fun run => absurd rfl run }
  case inr.inl =>
    have noRun := noReadmission_of_cardLaw h (show c.state ≠ .waiting by rw [was]; nofun)
    exact { h with
      off := on service.1, window := fun _ => service.2, times, readmitting := fun run => absurd noRun run }
  case inr.inr.inl =>
    have noRun := noReadmission_of_cardLaw h (show c.state ≠ .waiting by rw [was]; nofun)
    exact { h with
      off := on service.1, window := fun _ => service.2, times, readmitting := fun run => absurd noRun run }
  case inr.inr.inr =>
    exact { h with
      off := on nofun, window := fun _ => .inl rfl, times, readmission := (by decide : 1 ≤ 3)
      readmitting := fun _ => rfl }

/-- An accepted frame keeps the law of a supervised card (R22, R23, R30 to R32). -/
theorem acceptedFrame_cardLaw {e : CardEntry} {c : CardContext} (h : CardLaw e c) (f : GoodFrame)
    (supervised : c.state.supervised = true) : CardLaw e (acceptedFrame e f c) := by
  have shut : CardLaw e { c with
      earlyRun := 0, window := none, counters := { c.counters with accepted := raise c.counters.accepted } } :=
    { h with window := nofun, times := nofun, earlyRun := Nat.zero_le _ }
  have checked := provingCheck_cardLaw shut f.frame
  unfold acceptedFrame
  rw [provingCheck_window e f.frame { c with
    earlyRun := 0, counters := { c.counters with accepted := raise c.counters.accepted } }] at checked ⊢
  refine acceptedMove_cardLaw f.frame.cardFault f.measured ?_ rfl checked
  exact (congrArg CardState.supervised (provingCheck_keeps e f.frame _).1).trans supervised

/-- The judgement of a good frame keeps the card's law (R21 to R23). -/
theorem judgeFrame_cardLaw {e : CardEntry} {c : CardContext} (h : CardLaw e c) (n : CardIdx) (f : GoodFrame) :
    CardLaw e (judgeFrame n e f c).1 := by
  unfold judgeFrame
  split
  next => exact h
  next examined =>
    have supervised : c.state.supervised = true := by simpa using examined
    have on : c.state ≠ .off := fun off => by rw [off] at supervised; exact nomatch supervised
    split
    · exact mismatched_cardLaw h .lane on
    split
    · exact mismatched_cardLaw h .code on
    split
    · exact earlyFrame_cardLaw h on
    · exact acceptedFrame_cardLaw h f supervised

/-- A card that begins again is OFF exactly under a disabled entry (R37, R38). -/
theorem began_off_iff (e : CardEntry) (carrier : Bool) :
    (if e.enable then startState carrier else .off) = .off ↔ e.enable = false := by
  cases e.enable <;> cases carrier <;> decide

theorem carriedCard_cardLaw {old : CardEntry} {c : CardContext} (h : CardLaw old c) (new : CardEntry) (carrier : Bool) :
    CardLaw new (carriedCard old new carrier c) := by
  unfold carriedCard
  split
  next same => exact same ▸ h
  next =>
    exact ⟨began_off_iff new carrier, BitVec.zero_and, nofun, nofun, Nat.zero_le _, Nat.zero_le _,
      fun run => absurd rfl run, Nat.zero_le _⟩

theorem restartedCard_cardLaw (e : CardEntry) (carrier : Bool) : CardLaw e (restartedCard e carrier) :=
  ⟨began_off_iff e carrier, BitVec.zero_and, nofun, nofun, Nat.zero_le _, Nat.zero_le _, fun run => absurd rfl run,
    Nat.zero_le _⟩

/-! ### The law of all cards -/

/-- The law reads the entries of the Active bank, the cards and the known flags. -/
theorem cardsLaw_of_same {s t : State} (h : s.CardsLaw) (active : t.tables.active = s.tables.active)
    (cards : t.cards = s.cards) (known : t.input.known = s.input.known) : t.CardsLaw :=
  ⟨fun n => by rw [active, cards]; exact h.cards n, fun n => by rw [cards, known]; exact h.known n⟩

theorem cardsLaw_reads : ReadsOnly State.CardsLaw [.tables, .cards, .input] := fun s t same h =>
  cardsLaw_of_same h (congrArg TableStore.active (same .tables (by simp))) (same .cards (by simp))
    (congrArg InputImage.known (same .input (by simp)))

/-- A card's context written with its known flags keeps the law of all cards where the context obeys the card's. -/
theorem putCard_cardsLaw {s : State} (h : s.CardsLaw) (n : CardIdx) {c : CardContext}
    (lawful : CardLaw s.tables.active.cards[n] c) : (putCard n c s).CardsLaw := by
  refine ⟨fun m => ?_, fun m => ?_⟩ <;> obtain ⟨card, known, -⟩ := putCard_spec n m c s
  · rw [card]
    split
    next same => exact same ▸ lawful
    next => exact h.cards m
  · rw [known, card]
    split
    · rfl
    · exact h.known m

theorem changeCard_cardsLaw {s : State} (h : s.CardsLaw) (n : CardIdx) (t : Time) {c : CardContext}
    (lawful : CardLaw s.tables.active.cards[n] c) : (changeCard n t c s).CardsLaw :=
  cardsLaw_reads.keeps (announceCard_changesOnly n t _ [] _) (putCard_cardsLaw h n lawful)

theorem takeFrame_cardsLaw {s : State} (h : s.CardsLaw) (n : CardIdx) (f : GoodFrame) : (takeFrame n f s).CardsLaw := by
  have judged := judgeFrame_cardLaw (h.cards n) n f
  have announced : ∀ es u, State.CardsLaw u → (announceCard n f.arrival s.cards[n] es u).CardsLaw := fun es u =>
    cardsLaw_reads.keeps (announceCard_changesOnly n f.arrival _ es u)
  unfold takeFrame
  dsimp only
  split
  · exact announced _ _ (cardsLaw_of_same (putCard_cardsLaw h n judged) rfl rfl rfl)
  split
  · exact announced _ _ (putCard_cardsLaw h n (counters_cardLaw judged _))
  · exact announced _ _ (putCard_cardsLaw h n judged)

theorem convert_cardsLaw {s : State} (h : s.CardsLaw) (q : QueueEntry) : (convert q s).CardsLaw := by
  have written : (writeImage q s).CardsLaw := cardsLaw_of_same h rfl rfl rfl
  unfold convert
  split
  · have begun : (beginPass (some q.card) (writeImage q s)).CardsLaw := cardsLaw_of_same written rfl rfl rfl
    exact cardsLaw_reads.keeps (indicationPass_changesOnly q.arrival _)
      (cardsLaw_reads.keeps (relayPass_changesOnly q.card q.arrival _) begun)
  · exact written
  · exact written
  · exact putCard_cardsLaw h q.card (counters_cardLaw (h.cards q.card) _)

/-! ### The swap, RESTART and TIME SET at the cards (R22, R37, R38) -/

/-- Each card of the list, and no other, is taken over the swap, with its known flags. -/
theorem foldl_carryCard (old : Bank) {ns : List CardIdx} (distinct : ns.Nodup) (s : State) (m : CardIdx) :
    let c := carriedCard old.cards[m] s.tables.active.cards[m] s.lanes[m].carrier s.cards[m]
    (ns.foldl (carryCard old) s).cards[m] = (if m ∈ ns then c else s.cards[m]) ∧
      (ns.foldl (carryCard old) s).input.known[m] = (if m ∈ ns then knownFlags c else s.input.known[m]) := by
  induction ns generalizing s with
  | nil => exact ⟨rfl, rfl⟩
  | cons n ns ih =>
    obtain ⟨new, rest⟩ := List.nodup_cons.1 distinct
    obtain ⟨cards, flags⟩ := ih rest (carryCard old s n)
    obtain ⟨card, known, -⟩ := putCard_spec n m
      (carriedCard old.cards[n] s.tables.active.cards[n] s.lanes[n].carrier s.cards[n]) s
    rw [List.foldl_cons]
    dsimp only
    rw [cards, flags]
    unfold carryCard
    rw [card, known]
    by_cases this : n = m
    · subst this
      simp [new]
    · simp [this, Ne.symm this]

/-- After the card carry-over each card stands as R37 says, with its known flags as R33 gives them. -/
theorem carryCards_get (old : Bank) (t : Time) (s : State) (n : CardIdx) :
    let c := carriedCard old.cards[n] s.tables.active.cards[n] s.lanes[n].carrier s.cards[n]
    (carryCards old t s).cards[n] = c ∧ (carryCards old t s).input.known[n] = knownFlags c := by
  obtain ⟨card, known⟩ := foldl_carryCard old (List.nodup_finRange 16) s n
  rw [if_pos (List.mem_finRange n)] at card known
  have same := makeKnown_changesOnly ((List.finRange 16).flatMap fun n =>
    cardOffers n t s.cards[n] ((List.finRange 16).foldl (carryCard old) s).cards[n]) [] [cCardDown, cProvingFail]
    ((List.finRange 16).foldl (carryCard old) s)
  have cards : (carryCards old t s).cards = _ := same .cards (by decide)
  have input : (carryCards old t s).input = _ := same .input (by decide)
  dsimp only
  rw [cards, input]
  exact ⟨card, known⟩

/-- The later steps of a swap leave the cards and the Input Image as the card carry-over left them. -/
theorem swap_cards (t : Time) (s : State) :
    (swap t s).cards = (carryCards s.tables.active t (swapBanks s)).cards ∧
      (swap t s).input = (carryCards s.tables.active t (swapBanks s)).input := by
  have later : (carryCards s.tables.active t (swapBanks s)).changesOnly (swap t s)
      ([.relays, .indications, .engine, .tables, .link] ++ announceParts) :=
    changesOnly_then (changesOnly_then (changesOnly_mono _ (carryRelays_changesOnly s.tables.active t _))
      (carryIndications_changesOnly s.tables.active t _)) (finishSwap_changesOnly _)
  exact ⟨later .cards (by decide), later .input (by decide)⟩

theorem swap_card (t : Time) (s : State) (n : CardIdx) :
    let c := carriedCard s.tables.active.cards[n] s.tables.staging.cards[n] s.lanes[n].carrier s.cards[n]
    (swap t s).cards[n] = c ∧ (swap t s).input.known[n] = knownFlags c := by
  obtain ⟨cards, input⟩ := swap_cards t s
  dsimp only
  rw [cards, input]
  exact carryCards_get s.tables.active t (swapBanks s) n

theorem swap_cardsLaw {s : State} (h : s.CardsLaw) (t : Time) : (swap t s).CardsLaw := by
  have active : (swap t s).tables.active = s.tables.staging := congrArg TableStore.active (swap_tables t s).1
  refine ⟨fun n => ?_, fun n => ?_⟩ <;> obtain ⟨card, known⟩ := swap_card t s n
  · rw [active, card]
    exact carriedCard_cardLaw (h.cards n) s.tables.staging.cards[n] s.lanes[n].carrier
  · rw [known, card]
    rfl

theorem restartAll_cardsLaw (s : State) : (restartAll s).CardsLaw := by
  have blocks : (restartBlocks s).CardsLaw := by
    have active : (restartBlocks s).tables.active = s.tables.active := rfl
    refine ⟨fun n => ?_, fun n => ?_⟩
    · rw [active, restartBlocks_card]
      exact restartedCard_cardLaw _ _
    · have out : (restartedCard s.tables.active.cards[n] s.lanes[n].carrier).state ≠ .inService := by
        unfold restartedCard startState
        cases s.tables.active.cards[n].enable <;> cases s.lanes[n].carrier <;> nofun
      rw [(restartBlocks_input s n).2, restartBlocks_card, if_neg out]
  exact cardsLaw_reads.keeps (restartConditions_changesOnly _) blocks

/-- The cards, the waiting lane events and the known flags after a TIME SET (R22). -/
theorem loadTime_cards (value : Time) (s : State) (n : CardIdx) :
    (loadTime value s).cards[n] = s.cards[n].moved (value - s.time.counter) ∧
      (loadTime value s).inbox[n] = s.inbox[n].map (LaneEvent.moved (value - s.time.counter)) ∧
      (loadTime value s).input = s.input := by
  refine ⟨?_, ?_, ?_⟩ <;> simp [loadTime]

theorem loadTime_cardsLaw {s : State} (h : s.CardsLaw) (value : Time) : (loadTime value s).CardsLaw := by
  have active : (loadTime value s).tables = s.tables := by simp [loadTime]
  refine ⟨fun n => ?_, fun n => ?_⟩ <;> obtain ⟨card, -, input⟩ := loadTime_cards value s n
  · rw [active, card]
    exact moved_cardLaw (h.cards n) _
  · rw [input, card]
    exact h.known n

/-! ### Every command -/

/-- Is a command one that gives the Active bank other contents: POWER_ON, or the completion of a swap (R124, R138)? -/
def movesActive : Instr → Bool
  | .powerOn _ | .commitSwapComplete => true
  | _ => false

/-- A row of the desk's requests leaves the Active bank where its owner's act does. -/
theorem serve_active {mine : Request → Bool} {act : Request → State → State}
    (kept : ∀ q s, (act q s).tables.active = s.tables.active) (s : State) :
    (serve mine act s).tables.active = s.tables.active :=
  serve_keeps (P := fun t => t.tables.active = s.tables.active) (ps := [.tables])
    (fun u t same h => (congrArg TableStore.active (same .tables (by simp))).trans h) (by decide)
    (fun q u h => (kept q u).trans h) s rfl

/-- TABLE WRITE, COPY, COMMIT and ABORT leave the Active bank. -/
theorem tableActs_active (q : Request) (s : State) :
    (actTableWrite q s).tables.active = s.tables.active ∧ (actCopy q s).tables.active = s.tables.active ∧
      (actCommit q s).tables.active = s.tables.active ∧ (actAbort q s).tables.active = s.tables.active := by
  refine ⟨?_, ?_, ?_, ?_⟩
  · unfold actTableWrite writeSpan
    dsimp only
    repeat' split
    all_goals simp [setStaging]
  · unfold actCopy
    split <;> simp [setStaging]
  · unfold actCommit
    dsimp only
    repeat' split
    all_goals simp
  · unfold actAbort abortCheck abortTrain setTrain
    repeat' split
    all_goals simp

/-- Only POWER_ON and the completion of a swap change the Active bank. -/
theorem exec_active (c : Instr) (s t : State) (h : exec c s = .next t) (still : movesActive c = false) :
    t.tables.active = s.tables.active := by
  by_cases written : Part.tables ∈ writes c
  case neg => exact congrArg TableStore.active (exec_changesOnly c s t h .tables written)
  have acts := tableActs_active
  cases c with
  | powerOn straps => exact nomatch still
  | commitSwapComplete => exact nomatch still
  | checkPass =>
    injection h with h; subst h
    split
    · split <;> rfl
    · rfl
  | checkRefused =>
    injection h with h; subst h
    split
    · split <;> simp
    · rfl
  | restart =>
    cases h
    refine serve_active (fun q u => ?_) s
    have reset : (restartAll u).tables = (restartBlocks u).tables := restartAll_same u .tables (by decide)
    have kept : (actRestart q u).tables = (restartAll u).tables := by
      unfold actRestart
      dsimp only
      split
      · exact placeEntry_tables _ _
      · rfl
    rw [kept, reset, restartBlocks_tables]
  | abort => cases h; exact serve_active (fun q u => (acts q u).2.2.2) s
  | tableWrite => cases h; exact serve_active (fun q u => (acts q u).1) s
  | copyActiveToStaging => cases h; exact serve_active (fun q u => (acts q u).2.1) s
  | commit => cases h; exact serve_active (fun q u => (acts q u).2.2.1) s
  | _ => simp [writes, announceParts] at written

/-- CARD CONTROL keeps the law where its action on one card keeps the card's. -/
theorem cardControl_cardsLaw {s : State} (h : s.CardsLaw) {mine : Request → Bool}
    (after : CardIdx → State → CardContext)
    (lawful : ∀ n u, State.CardsLaw u → CardLaw u.tables.active.cards[n] (after n u)) :
    (serve mine (actCardControl fun n u => changeCard n u.time.counter (after n u) u) s).CardsLaw := by
  refine serve_keeps cardsLaw_reads (by decide) (fun q u hu => ?_) s h
  unfold actCardControl
  split
  · exact cardsLaw_reads.keeps (answer_changesOnly q .ok [] _) (changeCard_cardsLaw hu _ _ (lawful _ u hu))
  · exact cardsLaw_reads.keeps (answer_changesOnly q .field [] u) hu

/-- Every command keeps the cards lawful. -/
theorem exec_cardsLaw (c : Instr) (s t : State) (h : exec c s = .next t) (hs : s.CardsLaw) : t.CardsLaw := by
  by_cases written : Part.cards ∈ writes c
  case neg =>
    have input : Part.input ∉ writes c := by cases c <;> simp [writes, announceParts] at written ⊢
    have still : movesActive c = false := by cases c <;> simp [writes, announceParts, movesActive] at written ⊢
    have frame := exec_changesOnly c s t h
    exact cardsLaw_of_same hs (exec_active c s t h still) (frame .cards written)
      (congrArg InputImage.known (frame .input input))
  have popped : ∀ n, (popInbox n s).CardsLaw := fun n => cardsLaw_of_same hs rfl rfl rfl
  cases c with
  | powerOn straps => cases h; exact cardsLaw_of_same reset_cardsLaw rfl rfl rfl
  | supervisorFrameTaken n =>
    injection h with h; subst h
    split
    · exact hs
    split
    · exact takeFrame_cardsLaw (popped n) n _
    · exact hs
  | closeExpiry n =>
    injection h with h; subst h
    split
    next w _ =>
      split
      next due =>
        have timed : s.cards[n].state.timed = true := by simp only [Bool.and_eq_true] at due; exact due.1.2
        exact changeCard_cardsLaw hs n w.closeTime (expired_cardLaw (hs.cards n) timed)
      next => exact hs
    next => exact hs
  | cardCarrierFall n =>
    injection h with h; subst h
    split
    · exact hs
    split
    · exact changeCard_cardsLaw (popped n) n _ (carrierLost_cardLaw (hs.cards n))
    · exact hs
  | cardCarrierRise n =>
    injection h with h; subst h
    split
    · exact hs
    split
    · exact changeCard_cardsLaw (popped n) n _ (carrierFound_cardLaw (hs.cards n))
    · exact hs
  | conversionStart =>
    injection h with h; subst h
    split
    · split
      · refine convert_cardsLaw ?_ _
        exact cardsLaw_of_same hs rfl rfl rfl
      · exact hs
    · exact hs
  | commitSwapComplete =>
    injection h with h; subst h
    split
    · exact cardsLaw_reads.keeps (handOn_changesOnly _) (swap_cardsLaw hs _)
    · exact hs
  | restart =>
    cases h
    exact serve_keeps cardsLaw_reads (by decide)
      (fun q u _ => actRestart_keeps cardsLaw_reads (restartAll_cardsLaw u)) s hs
  | readmit =>
    cases h
    exact cardControl_cardsLaw hs _ fun n u hu => readmitted_cardLaw (hu.cards n) u.lanes[n].carrier
  | clearProving =>
    cases h
    exact cardControl_cardsLaw hs (fun n u => u.cards[n].clearProving) fun n u hu => clearProving_cardLaw (hu.cards n)
  | clearCounters =>
    cases h
    exact cardControl_cardsLaw hs (fun n u => u.cards[n].clearCounters) fun n u hu => counters_cardLaw (hu.cards n) _
  | timeSet =>
    cases h
    exact serve_keeps cardsLaw_reads (by decide)
      (fun q u hu => cardsLaw_reads.keeps (answer_changesOnly q _ _ _) (loadTime_cardsLaw hu _)) s hs
  | _ => simp [writes, announceParts] at written

/-- Settles O57: every command keeps each card's law and the known flags (R18, R19, R30, R33), so every step does. -/
theorem everyStepKeepsTheCardsLawful : Obligations.EveryStepKeepsTheCardsLawful :=
  step_keeps cardsLaw_reads (by decide) exec_cardsLaw

end Sys2Proof.Proofs

namespace Sys2Proof.Proofs
open Sys2Proof Sys2Proof.Machine Sys2Proof.Laws

/-! ### Where nothing changes, nothing is made known -/

/-- With no CONDITION record waiting the queue takes none. -/
theorem takeSome_nil {s : State} (none : s.conditions.waiting = []) (k : Nat) : takeSome k s = s := by
  have nothing : takeWaiting s = s := by unfold takeWaiting; rw [none]
  induction k with
  | zero => rfl
  | succ k ih => rw [takeSome, nothing, ih]

/-- Levels that stand as their sources do stay. -/
theorem followLive_still {s : State} {ns : List ConditionIdx} (live : ∀ n ∈ ns, s.conditions.live[n] = s.source n) :
    followLive ns s = s := by
  have same : ns.foldl (fun v (n : ConditionIdx) => v.set n (s.source n)) s.conditions.live = s.conditions.live := by
    refine Vector.ext fun i bound => ?_
    have get := foldl_set_get s.source ns s.conditions.live ⟨i, bound⟩
    refine get.trans ?_
    split
    next mem => exact (live _ mem).symm
    next => rfl
  unfold followLive
  rw [same]
  rfl

/-- Levels that stand as their sources do bring nothing to be made known. -/
theorem announce_still {s : State} {ns : List ConditionIdx} (none : s.conditions.waiting = [])
    (live : ∀ n ∈ ns, s.conditions.live[n] = s.source n) : announce [] [] ns s = s := by
  have noRise : (ns.filter fun n => s.source n && !s.conditions.live[n]) = [] := by
    refine List.filter_eq_nil_iff.2 fun n mem => ?_
    rw [live n mem, Bool.and_not_self]
    exact Bool.false_ne_true
  have known : makeKnown [] [] ns s = s := by
    unfold makeKnown
    dsimp only
    rw [noRise, followLive_still live]
    rfl
  unfold announce settle
  rw [known]
  exact takeSome_nil none _

/-- A card written as it stands changes nothing (R33). -/
theorem putCard_same {s : State} {n : CardIdx} (known : s.input.known[n] = knownFlags s.cards[n]) :
    putCard n s.cards[n] s = s := by
  have card : s.cards.set n s.cards[n] = s.cards := Vector.set_getElem_self n.isLt
  have flags : s.input.known.set n (knownFlags s.cards[n]) = s.input.known := by
    rw [← known]; exact Vector.set_getElem_self n.isLt
  unfold putCard
  rw [card, flags]
  rfl

/-- A card that has not changed has no results. -/
theorem announceCard_same {s : State} (law : s.ConditionsLaw) (n : CardIdx) (t : Time) :
    announceCard n t s.cards[n] [] s = s := by
  have reads : s.passReads n s.cards[n] s.cards[n] = false := by
    unfold State.passReads
    split
    · simp
    · rfl
  have events : cardEvents n t s.cards[n] s.cards[n] = [] := by unfold cardEvents; simp
  have offers : cardOffers n t s.cards[n] s.cards[n] = [] := if_pos ⟨rfl, rfl⟩
  have sent : sendEvents [] s = s := by simp [sendEvents]; rfl
  unfold announceCard
  dsimp only
  rw [reads, events, offers]
  show announce [] [] [cCardDown, cProvingFail] (sendEvents [] s) = s
  rw [sent]
  exact announce_still law.settled fun m _ => law.live m

/-! ### Frames that do not pass (R21, R22) -/

/-- A frame judged and not offered to the queue is a step of its card. -/
theorem frameTaken_cardStep {s : State} {n : CardIdx} {f : GoodFrame} {rest : List LaneEvent} {after : CardContext}
    (settled : s.conditions.waiting = []) (waits : s.FrameWaits n f rest)
    (judged : judgeFrame n s.tables.active.cards[n] f s.cards[n] = (after, false)) :
    ∃ t, exec (.supervisorFrameTaken n) s = .next t ∧ s.CardStep t n f.arrival rest s.frameQueue after := by
  have step := supervisorFrameTaken_waits waits
  rw [popInbox_waits waits, takeFrame_judged rest judged] at step
  exact ⟨_, step, announceCard_cardStep n f.arrival [] rest _ _ settled⟩

/-- A frame of a card that is not supervised leaves the waiting events and changes nothing (R21, log 6). -/
theorem frameTaken_unsupervised {s : State} {n : CardIdx} {f : GoodFrame} {rest : List LaneEvent}
    (conditions : s.ConditionsLaw) (cards : s.CardsLaw) (waits : s.FrameWaits n f rest)
    (unsupervised : (s.cards[n]).state.supervised = false) :
    exec (.supervisorFrameTaken n) s = .next (s.setInbox (s.inbox.set n rest)) := by
  have judged : judgeFrame n s.tables.active.cards[n] f s.cards[n] = (s.cards[n], false) := by
    unfold judgeFrame
    rw [unsupervised]
    rfl
  have step := supervisorFrameTaken_waits waits
  rw [popInbox_waits waits] at step
  have taken : takeFrame n f (s.setInbox (s.inbox.set n rest)) =
      announceCard n f.arrival s.cards[n] [] (putCard n s.cards[n] (s.setInbox (s.inbox.set n rest))) := by
    unfold takeFrame
    dsimp only [setInbox_tables, setInbox_cards]
    rw [judged]
    rfl
  have put : putCard n s.cards[n] (s.setInbox (s.inbox.set n rest)) = s.setInbox (s.inbox.set n rest) :=
    putCard_same (s := s.setInbox (s.inbox.set n rest)) (cards.known n)
  have law : (s.setInbox (s.inbox.set n rest)).ConditionsLaw :=
    ⟨conditions.live, conditions.enabled, conditions.held, conditions.settled⟩
  rw [taken, put] at step
  exact step.trans (congrArg Host.Outcome.next (announceCard_same law n f.arrival))

/-- A supervised card's frame of another card or code is mismatched (R21). -/
theorem judgeFrame_mismatched {n : CardIdx} {e : CardEntry} {f : GoodFrame} {c : CardContext}
    (supervised : c.state.supervised = true) (wrong : f.frame.card ≠ n ∨ f.frame.code ≠ e.expectedCode) :
    judgeFrame n e f c = (mismatched (if f.frame.card ≠ n then .lane else .code) c, false) := by
  unfold judgeFrame
  rw [supervised, if_neg (by decide)]
  by_cases card : f.frame.card ≠ n
  · rw [if_pos card, if_pos card]
  · rw [if_neg card, if_neg card, if_pos (wrong.resolve_left card)]

/-- A supervised card's own frame that comes less than Wo after the reference time is EARLY (R22). -/
theorem judgeFrame_early {n : CardIdx} {e : CardEntry} {f : GoodFrame} {c : CardContext} {w : CardWindow}
    (supervised : c.state.supervised = true) (card : f.frame.card = n) (code : f.frame.code = e.expectedCode)
    (window : c.window = some w) (early : f.since w.reference < e.windowOpen) :
    judgeFrame n e f c = (earlyFrame c, false) := by
  have isEarly : isEarly e f c = true := by unfold isEarly; rw [window]; exact decide_eq_true early
  unfold judgeFrame
  rw [supervised, if_neg (by decide), if_neg (not_not.2 card), if_neg (not_not.2 code), if_pos isEarly]

/-- Settles O9: each way of not passing by the judgement of its case. -/
theorem frameThatDoesNotPass : Obligations.FrameThatDoesNotPass := by
  intro s n f rest conditions cards waits
  refine ⟨fun out => ?_, fun supervised wrong => ?_, fun supervised card code w window early => ?_⟩
  · exact frameTaken_unsupervised conditions cards waits (Bool.eq_false_iff.2 (mt supervised_iff.1 out))
  · exact frameTaken_cardStep conditions.settled waits (judgeFrame_mismatched (supervised_iff.2 supervised) wrong)
  · exact frameTaken_cardStep conditions.settled waits
      (judgeFrame_early (supervised_iff.2 supervised) card code window early)

/-! ### Accepted frames (R22, R23, R29 to R32) -/

/-- The proving check moves the proving state and its two counters alone. -/
theorem provingCheck_frame (e : CardEntry) (f : CardFrame) (c : CardContext) :
    ∃ map status run dirty disagreements, provingCheck e f c =
      { c with
        errorMap := map, proving := status, cleanRun := run
        counters := { c.counters with dirtyProving := dirty, flagDisagreements := disagreements } } := by
  unfold provingCheck
  split
  · exact ⟨_, _, _, _, _, rfl⟩
  split
  · split
    · unfold cleanFrame
      split <;> exact ⟨_, _, _, _, _, rfl⟩
    · exact ⟨_, _, _, _, _, rfl⟩
  · exact ⟨_, _, _, _, _, rfl⟩

/-- R23's move moves the state and the readmission run alone. -/
theorem acceptedMove_frame (cf : Bool) (c : CardContext) :
    ∃ st run, acceptedMove cf c = { c with state := st, readmissionRun := run } := by
  unfold acceptedMove
  split
  · exact ⟨_, _, rfl⟩
  · split <;> exact ⟨_, _, rfl⟩
  · exact ⟨_, _, rfl⟩
  · exact ⟨_, _, rfl⟩
  · exact ⟨_, _, rfl⟩

/-- The context of a card counted and with its next window open, before the proving check (R22, R23). -/
def opened (e : CardEntry) (f : GoodFrame) (c : CardContext) : CardContext :=
  { c with
    earlyRun := 0, window := some (windowAt e f.measured)
    counters := { c.counters with accepted := raise c.counters.accepted } }

theorem acceptedFrame_eq (e : CardEntry) (f : GoodFrame) (c : CardContext) :
    acceptedFrame e f c = acceptedMove f.frame.cardFault (provingCheck e f.frame (opened e f c)) := rfl

/-- A frame that passes both tests is a step of its card to what R23 and the proving check make of it; the queue may
count a drop besides (R10). -/
theorem acceptedFrame_cardStep {s : State} {n : CardIdx} {f : GoodFrame} {rest : List LaneEvent}
    (settled : s.conditions.waiting = []) (waits : s.FrameWaits n f rest) (accepts : s.Accepts n f) :
    ∃ t queue drops, exec (.supervisorFrameTaken n) s = .next t ∧
      let after := acceptedFrame s.tables.active.cards[n] f s.cards[n]
      s.CardStep t n f.arrival rest queue { after with counters := { after.counters with queueDrops := drops } } := by
  have step := supervisorFrameTaken_waits waits
  rw [popInbox_waits waits, takeFrame_judged rest (judgeFrame_of_accepts accepts)] at step
  split at step
  · exact ⟨_, _, _, step, announceCard_cardStep n f.arrival [] rest _ _ settled⟩
  split at step
  · exact ⟨_, _, _, step, announceCard_cardStep n f.arrival [cQueueDrop] rest _ _ settled⟩
  · exact ⟨_, _, _, step, announceCard_cardStep n f.arrival [] rest _ _ settled⟩

/-- The table of R23. -/
theorem acceptedMove_table (cf : Bool) (c : CardContext) :
    let service : CardState := if cf then .suspect else .inService
    (c.state = .late → (acceptedMove cf c).state = .waiting ∧ (acceptedMove cf c).readmissionRun = 1) ∧
    (c.state = .waiting → c.readmissionRun + 1 < 3 →
      (acceptedMove cf c).state = .waiting ∧ (acceptedMove cf c).readmissionRun = c.readmissionRun + 1) ∧
    (c.state = .waiting → 3 ≤ c.readmissionRun + 1 →
      (acceptedMove cf c).state = service ∧ (acceptedMove cf c).readmissionRun = 0) ∧
    (c.state = .inService ∨ c.state = .suspect →
      (acceptedMove cf c).state = service ∧ (acceptedMove cf c).readmissionRun = c.readmissionRun) := by
  unfold acceptedMove
  refine ⟨fun late => ?_, fun waiting short => ?_, fun waiting full => ?_, fun served => ?_⟩
  · rw [late]; exact ⟨rfl, rfl⟩
  · rw [waiting]; dsimp only; rw [if_pos short]; exact ⟨rfl, rfl⟩
  · rw [waiting]; dsimp only; rw [if_neg (Nat.not_lt.2 full)]; exact ⟨rfl, rfl⟩
  · rcases served with was | was <;> rw [was] <;> exact ⟨rfl, rfl⟩

/-- Behind its count and its window, an accepted frame moves the state, the readmission run and the proving state
alone. -/
theorem acceptedFrame_frame (e : CardEntry) (f : GoodFrame) (c : CardContext) :
    ∃ st readmissions map status run dirty disagreements, acceptedFrame e f c =
      { opened e f c with
        state := st, readmissionRun := readmissions, errorMap := map, proving := status, cleanRun := run
        counters := { (opened e f c).counters with dirtyProving := dirty, flagDisagreements := disagreements } } := by
  obtain ⟨map, status, run, dirty, disagreements, check⟩ := provingCheck_frame e f.frame (opened e f c)
  obtain ⟨st, readmissions, moved⟩ := acceptedMove_frame f.frame.cardFault (provingCheck e f.frame (opened e f c))
  refine ⟨st, readmissions, map, status, run, dirty, disagreements, ?_⟩
  rw [acceptedFrame_eq, moved, check]

/-- The proving check leaves all that R23's table reads. -/
theorem acceptedFrame_table (e : CardEntry) (f : GoodFrame) (c : CardContext) :
    let service : CardState := if f.frame.cardFault then .suspect else .inService
    let after := acceptedFrame e f c
    (c.state = .late → after.state = .waiting ∧ after.readmissionRun = 1) ∧
    (c.state = .waiting → c.readmissionRun + 1 < 3 →
      after.state = .waiting ∧ after.readmissionRun = c.readmissionRun + 1) ∧
    (c.state = .waiting → 3 ≤ c.readmissionRun + 1 → after.state = service ∧ after.readmissionRun = 0) ∧
    (c.state = .inService ∨ c.state = .suspect →
      after.state = service ∧ after.readmissionRun = c.readmissionRun) := by
  have table := acceptedMove_table f.frame.cardFault (provingCheck e f.frame (opened e f c))
  obtain ⟨_, _, _, _, _, check⟩ := provingCheck_frame e f.frame (opened e f c)
  have state : (provingCheck e f.frame (opened e f c)).state = c.state := by rw [check]; rfl
  have run : (provingCheck e f.frame (opened e f c)).readmissionRun = c.readmissionRun := by rw [check]; rfl
  rw [state, run] at table
  exact table

/-- Settles O10: the card is counted and its window opened, and R23's table moves it. -/
theorem acceptedFrameOpensTheWindowAndMovesTheCard : Obligations.AcceptedFrameOpensTheWindowAndMovesTheCard := by
  intro s n f rest conditions _ waits accepts
  obtain ⟨t, queue, drops, step, cardStep⟩ := acceptedFrame_cardStep conditions.settled waits accepts
  obtain ⟨_, _, _, _, _, _, _, frame⟩ := acceptedFrame_frame s.tables.active.cards[n] f s.cards[n]
  have table := acceptedFrame_table s.tables.active.cards[n] f s.cards[n]
  refine ⟨t, queue, _, step, cardStep, ?_, ?_, ?_, ?_, ?_, ?_, ?_, table⟩
  all_goals
    rw [frame]
    rfl

/-- The pattern of an expected proving frame is R29's. -/
theorem expectedPattern_eq {e : CardEntry} {seq : Byte} (expected : expectedAt e seq) :
    e.expectedPattern seq = patternAt e seq := by
  unfold expectedAt at expected
  unfold CardEntry.expectedPattern patternAt
  cases interval : e.interval with
  | off => rw [interval] at expected; exact expected.elim
  | _ => rfl

/-- What the proving check makes of a card: its four cases (R29 to R32). -/
theorem provingCheck_cases (e : CardEntry) (f : CardFrame) (c : CardContext) :
    ((f.proving = true ↔ ¬expectedAt e f.sequence) → provingCheck e f c = flagDisagreement e c) ∧
    (f.proving = false → ¬expectedAt e f.sequence → provingCheck e f c = c) ∧
    (f.proving = true → expectedAt e f.sequence →
      let mismatch := (f.samples ^^^ patternAt e f.sequence) &&& e.mask
      provingCheck e f c = if mismatch = 0 then cleanFrame e c else dirtyFrame mismatch c) := by
  unfold provingCheck
  refine ⟨fun disagrees => if_pos fun same => ?_, fun sample unexpected => ?_, fun proving expected => ?_⟩
  · rw [same, expectsProving_iff] at disagrees
    exact iff_not_self disagrees
  · have expects : e.expectsProving f.sequence = false := Bool.eq_false_iff.2 (mt (expectsProving_iff e _).1 unexpected)
    rw [sample, expects]
    rfl
  · have expects : e.expectsProving f.sequence = true := (expectsProving_iff e _).2 expected
    rw [proving, expects, if_neg (not_not.2 rfl), if_pos rfl, CardEntry.mismatch, expectedPattern_eq expected]

/-- Settles O11: R23's move leaves what the proving check has made of the proving state. -/
theorem provingCheckOfAnAcceptedFrame : Obligations.ProvingCheckOfAnAcceptedFrame := by
  intro s n f rest conditions _ waits accepts
  obtain ⟨t, queue, drops, step, cardStep⟩ := acceptedFrame_cardStep conditions.settled waits accepts
  refine ⟨t, queue, _, step, cardStep, ?_⟩
  obtain ⟨disagrees, sample, proving⟩ :=
    provingCheck_cases s.tables.active.cards[n] f.frame (opened s.tables.active.cards[n] f s.cards[n])
  obtain ⟨st, run, moved⟩ := acceptedMove_frame f.frame.cardFault
    (provingCheck s.tables.active.cards[n] f.frame (opened s.tables.active.cards[n] f s.cards[n]))
  rw [acceptedFrame_eq, moved]
  refine ⟨fun flags => ?_, fun plain unexpected => ?_, fun marked expected dirty => ?_, fun marked expected clean => ?_⟩
  · rw [disagrees flags]
    exact ⟨rfl, rfl, rfl, rfl, rfl⟩
  · rw [sample plain unexpected]
    exact ⟨rfl, rfl, rfl, rfl, rfl⟩
  · rw [proving marked expected, if_neg dirty]
    exact ⟨rfl, rfl, rfl, rfl, rfl⟩
  · rw [proving marked expected, if_pos clean]
    unfold cleanFrame
    by_cases clears : s.tables.active.cards[n].mode = .autoclear ∧ s.cards[n].cleanRun + 1 = 8
    · rw [if_pos clears, if_pos (show _ ∧ (opened s.tables.active.cards[n] f s.cards[n]).cleanRun + 1 = 8 from clears)]
      exact ⟨by rw [clears.2]; rfl, rfl, rfl, rfl, rfl⟩
    · rw [if_neg clears, if_neg (show ¬(_ ∧ (opened s.tables.active.cards[n] f s.cards[n]).cleanRun + 1 = 8) from clears)]
      exact ⟨rfl, rfl, rfl, rfl, rfl⟩

/-! ### Close expiry and carrier changes (R24, R26, R27) -/

/-- A card's change by an event of its lane, or by none with `rest` as they stand, is a step of that card. -/
theorem changeCard_cardStep {s : State} (n : CardIdx) (time : Time) (rest : List LaneEvent) (after : CardContext)
    (settled : s.conditions.waiting = []) :
    s.CardStep (changeCard n time after (s.setInbox (s.inbox.set n rest))) n time rest s.frameQueue after :=
  announceCard_cardStep n time [] rest s.frameQueue after settled

/-- A card's change that takes no event of its lane is a step of that card. -/
theorem changeCard_cardStep_inbox {s : State} (n : CardIdx) (time : Time) (after : CardContext)
    (settled : s.conditions.waiting = []) :
    s.CardStep (changeCard n time after s) n time s.inbox[n] s.frameQueue after := by
  have same : s.setInbox (s.inbox.set n s.inbox[n]) = s := by
    rw [show s.inbox.set n s.inbox[n] = s.inbox from Vector.set_getElem_self n.isLt]; rfl
  have step := changeCard_cardStep n time s.inbox[n] after settled
  rwa [same] at step

/-- Where the Supervisor finds a lane event at the head, the event leaves and those behind it stay. -/
theorem popInbox_head {s : State} {n : CardIdx} {e : LaneEvent} {rest : List LaneEvent} (head : s.inbox[n] = e :: rest) :
    popInbox n s = s.setInbox (s.inbox.set n rest) := by
  unfold popInbox
  rw [head]
  rfl

/-- A lawful card with a window is in a state in which its close timer runs (R24). -/
theorem timed_of_window {e : CardEntry} {c : CardContext} {w : CardWindow} (h : CardLaw e c)
    (window : c.window = some w) : c.state.timed = true := by
  rcases h.window (by rw [window]; rfl) with was | was | was <;> rw [was] <;> rfl

/-- The readmission run of a lawful card is 0 after a close expiry in every state (R24). -/
theorem expired_eq {e : CardEntry} {c : CardContext} (h : CardLaw e c) :
    expired c = { c with
      state := if c.state = .waiting then .waiting else .late
      window := none, earlyRun := 0, readmissionRun := 0
      counters := { c.counters with lateExpiries := raise c.counters.lateExpiries } } := by
  unfold expired
  by_cases waiting : c.state = .waiting
  · simp only [if_pos waiting]
  · simp only [if_neg waiting, noReadmission_of_cardLaw h waiting]

/-- A lawful card that is not supervised has neither a window nor a readmission run (R23, R24). -/
theorem unsupervised_stopped {e : CardEntry} {c : CardContext} (h : CardLaw e c) (out : c.state.supervised = false) :
    c.window = none ∧ c.readmissionRun = 0 := by
  constructor
  · refine Option.eq_none_iff_forall_ne_some.2 fun w window => ?_
    rcases h.window (by rw [window]; rfl) with was | was | was <;> rw [was] at out <;> exact nomatch out
  · exact noReadmission_of_cardLaw h fun was => by rw [was] at out; exact nomatch out

/-- A lawful card after a carrier fall, field by field (R26). -/
theorem carrierLost_eq {e : CardEntry} {c : CardContext} (h : CardLaw e c) :
    carrierLost e c =
      { state := match c.state with
          | .off => .off
          | .faulty x => .faulty x
          | _ => .absent
        window := none
        earlyRun := match c.state with
          | .off => c.earlyRun
          | .faulty _ => c.earlyRun
          | .absent => c.earlyRun
          | _ => 0
        readmissionRun := 0
        errorMap := if e.clearOnLoss = true ∧ c.state ≠ .off then 0 else c.errorMap
        proving := if e.clearOnLoss = true ∧ c.state ≠ .off then .ok else c.proving
        cleanRun := if e.clearOnLoss = true ∧ c.state ≠ .off then 0 else c.cleanRun
        counters := if e.clearOnLoss = true ∧ c.state ≠ .off then .zero else c.counters } := by
  have lost : (if c.state.supervised then c.stopped .absent else c) = { c with
      state := match c.state with
        | .off => .off
        | .faulty x => .faulty x
        | _ => .absent
      window := none
      earlyRun := match c.state with
        | .off => c.earlyRun
        | .faulty _ => c.earlyRun
        | .absent => c.earlyRun
        | _ => 0
      readmissionRun := 0 } := by
    have stopped := unsupervised_stopped h
    obtain ⟨st, w, early, run, map, status, clean, counters⟩ := c
    cases st with
    | waiting => rfl
    | inService => rfl
    | suspect => rfl
    | late => rfl
    | off => obtain ⟨rfl, rfl⟩ : w = none ∧ run = 0 := stopped rfl; rfl
    | absent => obtain ⟨rfl, rfl⟩ : w = none ∧ run = 0 := stopped rfl; rfl
    | faulty x => obtain ⟨rfl, rfl⟩ : w = none ∧ run = 0 := stopped rfl; rfl
  unfold carrierLost
  rw [lost]
  by_cases clears : e.clearOnLoss = true ∧ c.state ≠ .off
  · simp only [if_pos clears]
    rfl
  · simp only [if_neg clears]

/-- Settles O13: each of the three is a change of the card to the context that its rule gives. -/
theorem closeExpiryAndCarrierChanges : Obligations.CloseExpiryAndCarrierChanges := by
  intro s n conditions cards still
  refine ⟨fun w window due => ?_, fun rest head => ?_, fun rest head => ?_⟩
  · have runs : (!s.swapping && s.cards[n].state.timed && reached s.time.counter w.closeTime) = true := by
      rw [still, timed_of_window (cards.cards n) window]
      exact decide_eq_true due
    have step : exec (.closeExpiry n) s = .next (changeCard n w.closeTime (expired s.cards[n]) s) := by
      show (.next _ : Result) = _
      rw [window]
      dsimp only
      rw [if_pos runs]
    rw [expired_eq (cards.cards n)] at step
    exact ⟨_, step, changeCard_cardStep_inbox n w.closeTime _ conditions.settled⟩
  · have step : exec (.cardCarrierFall n) s = .next (changeCard n s.time.counter
        (carrierLost s.tables.active.cards[n] s.cards[n]) (popInbox n s)) := by
      show (.next _ : Result) = _
      rw [if_neg (by simp [still]), head]
      rfl
    rw [popInbox_head head, carrierLost_eq (cards.cards n)] at step
    exact ⟨_, step, changeCard_cardStep n s.time.counter rest _ conditions.settled⟩
  · have step : exec (.cardCarrierRise n) s = .next (changeCard n s.time.counter
        (carrierFound s.cards[n]) (popInbox n s)) := by
      show (.next _ : Result) = _
      rw [if_neg (by simp [still]), head]
      rfl
    rw [popInbox_head head] at step
    exact ⟨_, step, changeCard_cardStep n s.time.counter rest _ conditions.settled⟩

/-! ### A card that leaves IN_SERVICE (R33) -/

/-- If card `n` leaves IN_SERVICE from `s` to `t`, one card-out event of it has been sent, behind those that wait. -/
def SendsCardOut (n : CardIdx) (s t : State) : Prop :=
  (s.cards[n]).state = .inService → (t.cards[n]).state ≠ .inService →
    ∃ time, t.evaluator.events = s.evaluator.events ++ [.cardOut n time]

theorem sendsCardOut_of_state {n : CardIdx} {s t : State} (same : (t.cards[n]).state = (s.cards[n]).state) :
    SendsCardOut n s t := fun serves leaves => absurd (same.trans serves) leaves

/-- Where the cards do not change, no card leaves. -/
theorem sendsCardOut_of_cards {n : CardIdx} {s t : State} (same : t.cards = s.cards) : SendsCardOut n s t :=
  sendsCardOut_of_state (by rw [same])

/-- A change of one card, announced, sends the card's event, and leaves every other card (R33). -/
theorem announceCard_sendsCardOut {n m : CardIdx} {t : Time} {es : List ConditionIdx} {s u : State} {c : CardContext}
    (cards : u.cards = s.cards.set n c) (evaluator : u.evaluator = s.evaluator) :
    SendsCardOut m s (announceCard n t s.cards[n] es u) := by
  intro serves leaves
  rw [announceCard_cards, cards] at leaves
  by_cases this : m = n
  · subst this
    have sent : cardEvents m t s.cards[m] u.cards[m] = [.cardOut m t] := by
      unfold cardEvents
      rw [cards, if_neg (not_not.2 serves), if_pos leaves]
    refine ⟨t, ?_⟩
    rw [announceCard_evaluator]
    dsimp only
    rw [sent, evaluator]
  · rw [set_other _ _ this] at leaves
    exact absurd serves leaves

theorem changeCard_sendsCardOut {n m : CardIdx} {t : Time} {c : CardContext} {s : State} :
    SendsCardOut m s (changeCard n t c s) := announceCard_sendsCardOut (c := c) rfl rfl

theorem takeFrame_sendsCardOut {n m : CardIdx} {f : GoodFrame} {s : State} : SendsCardOut m s (takeFrame n f s) := by
  unfold takeFrame
  dsimp only
  split
  · exact announceCard_sendsCardOut rfl rfl
  split
  · exact announceCard_sendsCardOut rfl rfl
  · exact announceCard_sendsCardOut rfl rfl

/-- A conversion moves no card's state: it counts a stale frame at most (R13). -/
theorem convert_state (q : QueueEntry) (s : State) (n : CardIdx) :
    ((convert q s).cards[n]).state = (s.cards[n]).state := by
  unfold convert
  split
  · rw [indicationPass_cards, relayPass_cards]
    rfl
  · rfl
  · rfl
  · unfold countStale
    dsimp only
    rw [(putCard_spec q.card n _ s).1]
    split
    next same => rw [← same]
    next => rfl

/-- A row of the desk's requests sends what its owner's act sends. -/
theorem serve_sendsCardOut {n : CardIdx} {mine : Request → Bool} {act : Request → State → State}
    (acts : ∀ q u, SendsCardOut n u (act q u)) (s : State) : SendsCardOut n s (serve mine act s) := by
  unfold serve
  split
  next q _ =>
    intro serves leaves
    obtain ⟨time, sent⟩ := acts q (dropRequest s) serves (by simpa using leaves)
    exact ⟨time, by simpa using sent⟩
  next => exact sendsCardOut_of_cards rfl

/-- CARD CONTROL sends what its change of the one card sends (R36). -/
theorem cardControl_sendsCardOut {n : CardIdx} {mine : Request → Bool} (after : CardIdx → State → CardContext)
    (s : State) :
    SendsCardOut n s (serve mine (actCardControl fun m u => changeCard m u.time.counter (after m u) u) s) := by
  refine serve_sendsCardOut (fun q u => ?_) s
  unfold actCardControl
  split
  · intro serves leaves
    obtain ⟨time, sent⟩ := changeCard_sendsCardOut serves (by simpa using leaves)
    exact ⟨time, by simpa using sent⟩
  · exact sendsCardOut_of_cards (by simp)

/-- Settles O14: the commands that may move a card's state change one card each, and announce its change (R33). -/
theorem leavingServiceSendsOneCardOut : Obligations.LeavingServiceSendsOneCardOut := by
  intro c s t n h notPowerOn notRestart notSwap
  suffices sends : SendsCardOut n s t from sends
  by_cases written : Part.cards ∈ writes c
  case neg => exact sendsCardOut_of_cards (exec_changesOnly c s t h .cards written)
  have stays : SendsCardOut n s s := sendsCardOut_of_cards rfl
  have popped : ∀ m t c, SendsCardOut n s (changeCard m t c (popInbox m s)) := fun m t c =>
    changeCard_sendsCardOut (s := popInbox m s)
  cases c with
  | powerOn straps => exact absurd rfl (notPowerOn straps)
  | restart => exact absurd rfl notRestart
  | commitSwapComplete => exact absurd rfl notSwap
  | supervisorFrameTaken m =>
    injection h with h; subst h
    split
    · exact stays
    split
    · exact takeFrame_sendsCardOut (s := popInbox m s)
    · exact stays
  | closeExpiry m =>
    injection h with h; subst h
    split
    · split
      · exact changeCard_sendsCardOut
      · exact stays
    · exact stays
  | cardCarrierFall m =>
    injection h with h; subst h
    split
    · exact stays
    split
    · exact popped m _ _
    · exact stays
  | cardCarrierRise m =>
    injection h with h; subst h
    split
    · exact stays
    split
    · exact popped m _ _
    · exact stays
  | conversionStart =>
    injection h with h; subst h
    split
    · split
      · exact sendsCardOut_of_state (convert_state _ _ n)
      · exact stays
    · exact stays
  | readmit => cases h; exact cardControl_sendsCardOut _ s
  | clearProving => cases h; exact cardControl_sendsCardOut (fun m u => u.cards[m].clearProving) s
  | clearCounters => cases h; exact cardControl_sendsCardOut (fun m u => u.cards[m].clearCounters) s
  | timeSet =>
    cases h
    refine serve_sendsCardOut (fun q u => sendsCardOut_of_state ?_) s
    unfold actTimeSet
    rw [answer_cards, (loadTime_cards (timeOf q) u n).1]
    rfl
  | _ => simp [writes, announceParts] at written

end Sys2Proof.Proofs

namespace Sys2Proof.Proofs
open Sys2Proof Sys2Proof.Machine Sys2Proof.Laws

/-! ### A request that stands alone is served and answered (R150, R151) -/

/-- An owner's answer changes nothing of the desk link but the request, its promise and the Response Queue. -/
theorem answer_answered {s u : State} {q : Request} (st : AnswerStatus) (body : List Byte) (serves : s.Serves q)
    (link : u.link = (dropRequest s).link) :
    s.Answered (answer q st body u) q st.byte body ∧ s.linkOtherwiseSame (answer q st body u) := by
  have requests : (dropRequest s).link.requests = [] := congrArg List.tail serves.alone
  have promises : (dropRequest s).link.promises = 1 := serves.counted
  have answered := answer_spec q st body u
  rw [if_pos serves.promised, responseFrame, link, promises] at answered
  refine ⟨⟨?_, ?_, ?_⟩, ?_⟩
  · rw [answered]; exact requests
  · rw [answered]
  · rw [answered]; rfl
  · unfold State.linkOtherwiseSame
    rw [answered]
    exact ⟨rfl, rfl, rfl, rfl, rfl, rfl, rfl, rfl, rfl⟩

/-- With no request behind it, an owner's request leaves what the owner's act leaves. -/
theorem serve_alone {mine : Request → Bool} {act : Request → State → State} {s : State} {q : Request}
    (still : s.swapping = false) (alone : s.link.requests = [q]) (owner : handing q = .toOwner) (hers : mine q = true)
    (done : (act q (dropRequest s)).link.requests = []) : serve mine act s = act q (dropRequest s) := by
  rw [serve_head mine act s q [] still alone owner hers, handOn_nil _ done]

/-! ### CARD CONTROL (R36) -/

/-- A CARD CONTROL of one of the three actions goes to its owner. -/
theorem handing_cardControl {q : Request} {card action : Byte} (direct : q.broadcast = false)
    (payload : q.payload = [0x10#8, card, action]) (known : action = 1 ∨ action = 2 ∨ action = 3) :
    handing q = .toOwner ∧ hasAction action q = true ∧ actCardControl.cardNumber q = card.toNat := by
  have code : q.code = cardControlCode := by rw [Request.code, payload]; rfl
  have third : byteAt q.payload 2 = action := by rw [payload]; rfl
  have second : byteAt q.payload 1 = card := by rw [payload]; rfl
  have action_known : knownAction q = true := by
    unfold knownAction
    rw [third]
    rcases known with rfl | rfl | rfl <;> rfl
  refine ⟨?_, ?_, by rw [actCardControl.cardNumber, second]⟩
  · unfold handing
    rw [direct, code, payload, action_known]
    rfl
  · unfold hasAction
    rw [code, third]
    simp

/-- A step of a card does not look at the desk link. -/
theorem cardStep_setLink {s u : State} {l : DeskLink} {n : CardIdx} {time : Time} {rest : List LaneEvent}
    {queue : List QueueEntry} {after : CardContext} (h : (s.setLink l).CardStep u n time rest queue after) :
    s.CardStep (u.setLink s.link) n time rest queue after :=
  { h with
    frame := fun p away => by
      by_cases this : p = .link
      · subst this; rfl
      · have same := h.frame p away
        cases p with
        | link => exact absurd rfl this
        | _ => exact same }

/-- An answer changes the desk link alone. -/
theorem answer_setLink (q : Request) (st : AnswerStatus) (b : List Byte) (s : State) (l : DeskLink) :
    (answer q st b s).setLink l = s.setLink l := by
  unfold answer answerEntry
  split <;> rfl

/-- CARD CONTROL whose action replaces one card's context: a step of that card and an OK, or a FIELD. -/
theorem cardControl_acts {s : State} {q : Request} {card action : Byte} (law : s.ConditionsLaw) (serves : s.Serves q)
    (payload : q.payload = [0x10#8, card, action]) (known : action = 1 ∨ action = 2 ∨ action = 3)
    (after : CardIdx → State → CardContext) :
    let t := serve (hasAction action) (actCardControl fun n u => changeCard n u.time.counter (after n u) u) s
    s.linkOtherwiseSame t ∧ (15 < card.toNat → s.Answered t q 3 [] ∧ s.changesOnly t [.link]) ∧
      ∀ n : CardIdx, n.val = card.toNat → s.Answered t q 0 [] ∧
        s.CardStep (t.setLink s.link) n s.time.counter s.inbox[n] s.frameQueue (after n (dropRequest s)) := by
  obtain ⟨owner, hers, number⟩ := handing_cardControl serves.direct payload known
  intro t
  have served (done) : t = _ := serve_alone serves.swap serves.alone owner hers done
  by_cases above : card.toNat < 16
  · have acts : ∀ u, actCardControl (fun n u => changeCard n u.time.counter (after n u) u) q u =
        answer q .ok [] (changeCard ⟨card.toNat, above⟩ u.time.counter (after ⟨card.toNat, above⟩ u) u) := fun u => by
      unfold actCardControl
      simp only [number, above, dif_pos]
    obtain ⟨answered, otherwise⟩ := answer_answered .ok [] serves
      (u := changeCard ⟨card.toNat, above⟩ (dropRequest s).time.counter (after ⟨card.toNat, above⟩ (dropRequest s))
        (dropRequest s)) (changeCard_link ..)
    have step := served (by rw [acts]; exact answered.requests)
    rw [acts] at step
    rw [step]
    refine ⟨otherwise, fun large => absurd above (Nat.not_lt.2 large), fun n this => ?_⟩
    obtain rfl : n = ⟨card.toNat, above⟩ := Fin.ext this
    refine ⟨answered, ?_⟩
    have cardStep := cardStep_setLink (changeCard_cardStep_inbox (s := dropRequest s) ⟨card.toNat, above⟩
      s.time.counter (after ⟨card.toNat, above⟩ (dropRequest s)) law.settled)
    rwa [answer_setLink]
  · have acts : ∀ u, actCardControl (fun n u => changeCard n u.time.counter (after n u) u) q u = answer q .field [] u :=
      fun u => by
        unfold actCardControl
        simp only [number, above, dif_neg, not_false_eq_true]
    obtain ⟨answered, otherwise⟩ := answer_answered .field [] serves (u := dropRequest s) rfl
    have step := served (by rw [acts]; exact answered.requests)
    rw [acts] at step
    rw [step]
    have frame := changesOnly_trans (dropRequest_changesOnly s) (answer_changesOnly q .field [] _)
    exact ⟨otherwise, fun _ => ⟨answered, frame⟩, fun n this => absurd (this ▸ n.isLt) above⟩

/-- Settles O52: the three actions replace one card's context as R36 says. -/
theorem cardControlActsOnOneCard : Obligations.CardControlActsOnOneCard := by
  intro s q card action law serves payload command mem
  have acts := fun known => cardControl_acts law serves payload known
  simp only [List.mem_cons, Prod.mk.injEq, List.not_mem_nil, or_false] at mem
  rcases mem with ⟨rfl, rfl⟩ | ⟨rfl, rfl⟩ | ⟨rfl, rfl⟩
  · exact ⟨_, rfl, acts (.inl rfl) fun n u => readmitted u.lanes[n].carrier u.cards[n]⟩
  · exact ⟨_, rfl, acts (.inr (.inl rfl)) fun n u => u.cards[n].clearProving⟩
  · exact ⟨_, rfl, acts (.inr (.inr rfl)) fun n u => u.cards[n].clearCounters⟩

/-! ### TIME SET and the millisecond (R22, R163, R164) -/

/-- Four bytes are read back from the 32-bit number they make. -/
theorem be32_ofBe32 (a b c d : Byte) : be32 (ofBe32 a b c d) = [a, b, c, d] := by
  have high : ∀ start, (16 : Nat) ≤ start →
      (ofBe32 a b c d).extractLsb' start 8 = (a ++ b : BitVec 16).extractLsb' (start - 16) 8 :=
    fun _ above => BitVec.extractLsb'_append_eq_of_le above
  have low : ∀ start, start + 8 ≤ (16 : Nat) →
      (ofBe32 a b c d).extractLsb' start 8 = (c ++ d : BitVec 16).extractLsb' start 8 :=
    fun _ below => BitVec.extractLsb'_append_eq_of_add_le below
  unfold be32
  rw [high 24 (by decide), high 16 (by decide), low 8 (by decide), low 0 (by decide),
    BitVec.extractLsb'_append_eq_left, BitVec.extractLsb'_append_eq_right, BitVec.extractLsb'_append_eq_left,
    BitVec.extractLsb'_append_eq_right]

/-- A TIME SET of the right length goes to its owner, as a broadcast too (R150). -/
theorem handing_timeSet {q : Request} {a b c d : Byte} (payload : q.payload = [0x40#8, a, b, c, d]) :
    handing q = .toOwner ∧ hasCode timeSetCode q = true ∧ timeOf q = ofBe32 a b c d := by
  have code : q.code = timeSetCode := by rw [Request.code, payload]; rfl
  refine ⟨?_, decide_eq_true code, by rw [timeOf, payload]; rfl⟩
  unfold handing
  rw [code, payload]
  cases q.broadcast <;> rfl

/-- A level whose source does not stand falls, and brings nothing to be made known (R158). -/
theorem announce_fallen {s : State} {n : ConditionIdx} (none : s.conditions.waiting = []) (fallen : s.source n = false) :
    announce [] [] [n] s = s.setConditions { s.conditions with live := s.conditions.live.set n false } := by
  have followed : followLive [n] s = s.setConditions { s.conditions with live := s.conditions.live.set n false } := by
    unfold followLive
    rw [List.foldl_cons, List.foldl_nil, fallen]
  have noRise : ([n].filter fun n => s.source n && !s.conditions.live[n]) = [] := by simp [fallen]
  have known : makeKnown [] [] [n] s = followLive [n] s := by
    unfold makeKnown
    dsimp only
    rw [noRise]
    rfl
  unfold announce settle
  rw [known, followed]
  exact takeSome_nil (by exact none) _

/-- The Time Base loaded, part by part (R22, R164). -/
theorem loadTime_eq {s : State} (value : Time) (none : s.conditions.waiting = []) :
    loadTime value s =
      let amount := value - s.time.counter
      (((((s.setTime (s.time.load value)).setCards (Vector.ofFn fun n : CardIdx => s.cards[n].moved amount)).setInbox
        (Vector.ofFn fun n : CardIdx => s.inbox[n].map (LaneEvent.moved amount))).setReader
        { s.reader with nextExpiry := s.reader.nextExpiry.map (· + amount) }).setConditions
        { s.conditions with live := s.conditions.live.set cTimeInvalid false }) := by
  unfold loadTime
  exact announce_fallen none rfl

/-- TIME_SET where its request stands alone: the Time Base is loaded, and the request answered where it holds a
promise. -/
theorem timeSet_serves {s : State} {q : Request} {a b c d : Byte} (payload : q.payload = [0x40#8, a, b, c, d])
    (still : s.swapping = false) (alone : s.link.requests = [q]) :
    exec .timeSet s = .next (answer q .ok [a, b, c, d] (loadTime (ofBe32 a b c d) (dropRequest s))) := by
  obtain ⟨owner, hers, value⟩ := handing_timeSet payload
  have acts : actTimeSet q (dropRequest s) = answer q .ok [a, b, c, d] (loadTime (ofBe32 a b c d) (dropRequest s)) := by
    rw [actTimeSet, value, be32_ofBe32]
  have link : (loadTime (ofBe32 a b c d) (dropRequest s)).link = (dropRequest s).link := by simp [loadTime]
  have done : (actTimeSet q (dropRequest s)).link.requests = [] := by
    rw [acts, answer_spec, link]
    split <;> exact congrArg List.tail alone
  rw [← acts]
  exact congrArg Host.Outcome.next (serve_alone still alone owner hers done)

/-- The changes kept at a millisecond are those since the millisecond before it (log 3). -/
theorem takeWhile_sets {sets older : List TimeChange} (set : ∀ c ∈ sets, c.millisecond = false)
    (tick : ∀ c, older.head? = some c → c.millisecond = true) :
    (sets ++ older).takeWhile (fun c => !c.millisecond) = sets := by
  have none : older.takeWhile (fun c => !c.millisecond) = [] := by
    cases older with
    | nil => rfl
    | cons c rest => rw [List.takeWhile_cons, tick c rfl]; rfl
  rw [List.takeWhile_append_of_pos fun c mem => by rw [set c mem]; rfl, none, List.append_nil]

/-- Settles O53: the load moves what measures with the counter and leaves the stamps. -/
theorem timeSetAndMillisecond : Obligations.TimeSetAndMillisecond := by
  refine ⟨fun s q a b c d none payload still alone => ?_, fun s sets older changes set tick => ?_⟩
  · have loaded := loadTime_eq (s := dropRequest s) (ofBe32 a b c d) none
    have step := timeSet_serves payload still alone
    have link : (loadTime (ofBe32 a b c d) (dropRequest s)).link = (dropRequest s).link := by rw [loaded]; rfl
    have requests : (dropRequest s).link = { s.link with requests := [] } :=
      congrArg (fun r => { s.link with requests := r }) (congrArg List.tail alone)
    have parts := loadTime_cards (ofBe32 a b c d) (dropRequest s)
    refine ⟨_, step, ?_, fun n => ?_, fun n => ?_, ?_, ?_, fun direct promised counted => ?_, fun _ unpromised => ?_, ?_⟩
    · rw [answer_time, loaded]; rfl
    · rw [answer_cards, (parts n).1]; rfl
    · rw [answer_inbox, (parts n).2.1]
      exact List.map_congr_left fun e _ => by cases e <;> rfl
    · rw [answer_reader, loaded]; rfl
    · rw [answer_conditions, loaded]; rfl
    · exact answer_answered .ok [a, b, c, d] ⟨still, alone, direct, promised, counted⟩ link
    · rw [answer_spec, unpromised, if_neg Bool.false_ne_true, link, requests]
    · have load : (dropRequest s).changesOnly (loadTime (ofBe32 a b c d) (dropRequest s))
          [.time, .cards, .inbox, .reader, .conditions] := by
        rw [loaded]; intro p; cases p <;> simp [Part.same]
      exact changesOnly_then (changesOnly_trans (changesOnly_mono _ (dropRequest_changesOnly s)) (changesOnly_mono _ load))
        (answer_changesOnly q .ok _ _)
  · have kept := takeWhile_sets set tick
    show (.next (s.setTime s.time.tick) : Result) = _
    rw [TimeBase.tick, changes, kept]

end Sys2Proof.Proofs

namespace Sys2Proof.Proofs
open Sys2Proof Sys2Proof.Machine Sys2Proof.Laws

/-! ### A sent desk frame is received as it was sent (R142, R143) -/

/-- The bytes of a desk frame on the line, its header spelled out. -/
theorem deskFrame_bytes (f : DeskFrame) :
    f.bytes = 0xA5#8 :: 0x5A#8 :: f.destination :: f.source :: f.kind :: f.tag :: BitVec.ofNat 8 f.payload.length ::
      (f.payload ++ be16 (crc16 f.covered)) := rfl

/-- The two bytes behind a list are found at its length. -/
theorem byteAt_behind (bs : List Byte) (hi lo : Byte) :
    byteAt (bs ++ [hi, lo]) bs.length = hi ∧ byteAt (bs ++ [hi, lo]) (bs.length + 1) = lo := by
  constructor <;> simp [byteAt]

/-- A receiver judges the characters of a desk frame good, and reads its fields back. -/
theorem judge_encodeDeskFrame {f : DeskFrame} (short : f.payload.length ≤ 240) : judge (encodeDeskFrame f) = .good f := by
  have bytes : (encodeDeskFrame f).map PortChar.byte = f.bytes := by
    unfold encodeDeskFrame
    rw [List.map_map]
    exact List.map_id _
  have length : (byteAt f.bytes 6).toNat = f.payload.length := by
    show (BitVec.ofNat 8 f.payload.length).toNat = _
    rw [BitVec.toNat_ofNat]
    omega
  have all : f.bytes.length = 9 + f.payload.length := by
    rw [deskFrame_bytes]
    simp [be16]
    omega
  have payload : (f.bytes.drop 7).take f.payload.length = f.payload := List.take_left
  have covered : (f.bytes.drop 2).take (5 + f.payload.length) = f.covered := by
    have size : 5 + f.payload.length = f.covered.length := Nat.add_comm ..
    rw [size]
    exact List.take_left
  have crc : ofBe16 (byteAt f.bytes (7 + f.payload.length)) (byteAt f.bytes (8 + f.payload.length)) = crc16 f.covered := by
    obtain ⟨hi, lo⟩ := byteAt_behind f.payload ((crc16 f.covered).extractLsb' 8 8) ((crc16 f.covered).extractLsb' 0 8)
    rw [Nat.add_comm 7, Nat.add_comm 8]
    exact (congrArg₂ ofBe16 hi lo).trans (ofBe16_be16 _)
  have steady : ((encodeDeskFrame f).drop 2).any PortChar.afterIdle = false := by
    unfold encodeDeskFrame
    rw [← List.map_drop, List.any_map]
    simp
  have stopped : (encodeDeskFrame f).any (fun c => !c.stop) = false := by simp [encodeDeskFrame]
  unfold judge
  dsimp only
  rw [bytes, length, payload, covered, crc, all, steady, stopped, if_neg Bool.false_ne_true, if_neg (Nat.lt_irrefl _),
    if_neg (Nat.lt_irrefl _), if_neg (Nat.not_lt.2 short), if_neg Bool.false_ne_true, if_neg (not_not.2 rfl)]
  rfl

theorem receive_encodeDeskFrame {f : DeskFrame} (short : f.payload.length ≤ 240) :
    receive (encodeDeskFrame f) = .good f := by
  have found : hunt (encodeDeskFrame f) = some (encodeDeskFrame f) := by
    unfold encodeDeskFrame
    rw [deskFrame_bytes]
    exact if_pos ⟨rfl, rfl, rfl⟩
  unfold receive
  rw [found]
  exact judge_encodeDeskFrame short

/-! ### The checks of a request (R150, R151) -/

/-- The codes of the table of requests (R167). -/
def knownCodes : List Byte :=
  [0x01#8, 0x02#8, 0x03#8, 0x04#8, 0x10#8, 0x20#8, 0x21#8, 0x22#8, 0x23#8, 0x30#8, 0x31#8, 0x40#8, 0x41#8, 0x42#8,
    0x43#8]

/-- The length of the parameters behind a known code; for TABLE WRITE the least (R167). -/
def paramsLength (code : Byte) : Nat :=
  if code ∈ [0x02#8, 0x10#8, 0x42#8, 0x43#8] then 2
  else if code = 0x20#8 ∨ code = 0x40#8 then 4
  else if code = 0x21#8 then 5
  else if code = 0x30#8 then 6
  else if code = 0x31#8 then 3
  else 0

theorem lookup_unknown {code : Byte} (unknown : code ∉ knownCodes) : requestTable.lookup code = none := by
  refine List.lookup_eq_none_iff.2 fun p mem => ?_
  have key : p.1 ∈ knownCodes := List.mem_map_of_mem (f := Prod.fst) mem
  exact bne_iff_ne.2 fun same : code = p.1 => unknown (same ▸ key)

theorem lookup_known : ∀ code ∈ knownCodes, requestTable.lookup code =
    some (if code = 0x20#8 then .atLeast (paramsLength code + 1) else .exactly (paramsLength code + 1)) := by
  decide

section
variable {q : Request} {code : Byte} {params : List Byte} (direct : q.broadcast = false)
include direct

/-- A request without a code, or with an unknown one, is answered UNKNOWN (R150). -/
theorem handing_empty (payload : q.payload = []) : handing q = .answered .unknown := by
  unfold handing
  rw [direct, payload]
  rfl

variable (payload : q.payload = code :: params)
include payload

theorem handing_unknown (unknown : code ∉ knownCodes) : handing q = .answered .unknown := by
  have codes : q.code = code := by rw [Request.code, payload]; rfl
  unfold handing
  rw [direct, payload, codes, lookup_unknown unknown]
  rfl

/-- A request with a known code is answered LENGTH or FIELD, or goes to its owner (R36, R150, log 7). -/
theorem handing_known (known : code ∈ knownCodes) :
    handing q =
      if (if code = 0x20#8 then params.length < paramsLength code else params.length ≠ paramsLength code) then
        .answered .length
      else if code = 0x10#8 ∧ byteAt params 1 ≠ 1 ∧ byteAt params 1 ≠ 2 ∧ byteAt params 1 ≠ 3 then .answered .field
      else .toOwner := by
  have codes : q.code = code := by rw [Request.code, payload]; rfl
  have action : byteAt q.payload 2 = byteAt params 1 := by rw [payload]; rfl
  have bad : (code = cardControlCode ∧ (!knownAction q) = true) ↔
      (code = 0x10#8 ∧ byteAt params 1 ≠ 1 ∧ byteAt params 1 ≠ 2 ∧ byteAt params 1 ≠ 3) := by
    refine and_congr Iff.rfl ?_
    unfold knownAction
    rw [action]
    simp only [Bool.not_eq_true', Bool.or_eq_false_iff, decide_eq_false_iff_not, and_assoc]
    exact Iff.rfl
  have wrong : (!(if code = 0x20#8 then LengthRule.atLeast (paramsLength code + 1)
      else .exactly (paramsLength code + 1)).admits (params.length + 1)) = true ↔
      (if code = 0x20#8 then params.length < paramsLength code else params.length ≠ paramsLength code) := by
    split
    · simp [LengthRule.admits]
    · simp [LengthRule.admits]
  unfold handing
  rw [direct, payload, codes, lookup_known code known]
  dsimp only
  simp only [Bool.false_eq_true, if_false, List.isEmpty_cons, List.length_cons, wrong, bad]

end

/-! ### A frame for the own node (R145, R150, R151) -/

/-- A request for the own node, taken with none waiting and with room, is handed on at once. -/
theorem ownRequest_taken {s : State} {f : DeskFrame} (kind : f.kind = 1) (short : f.payload.length ≤ 240)
    (own : nodeOf f.destination = s.link.ownNode) (still : s.swapping = false) (none : s.link.requests = [])
    (room : s.link.responses.length + s.link.promises < 4) :
    exec (.upstreamFrameReceived (encodeDeskFrame f)) s =
      .next (handOnAll [requestOf f false true] (s.setLink { s.link with
        promises := s.link.promises + 1, requests := [requestOf f false true] })) := by
  have route : routeUpstream f s = consumeOwn f s := by
    unfold routeUpstream
    dsimp only
    rw [if_neg (show ¬f.kind ≠ requestKind from not_not.2 kind), if_pos own]
  have taken : consumeOwn f s =
      takeRequest (requestOf f false true) (s.setLink { s.link with promises := s.link.promises + 1 }) :=
    if_pos (decide_eq_true room)
  have joined : ∀ l : DeskLink, handOn (s.setLink l) = handOnAll l.requests (s.setLink l) := fun l =>
    if_neg (show ¬s.swapping = true by rw [still]; exact Bool.false_ne_true)
  show (.next _ : Result) = _
  rw [receive_encodeDeskFrame short]
  dsimp only
  rw [route, taken, takeRequest]
  dsimp only [setLink_link]
  rw [none, List.nil_append]
  exact congrArg Host.Outcome.next (joined _)

/-- One that goes to its owner waits with its promise. -/
theorem ownRequest_waits {s : State} {q : Request} (owner : handing q = .toOwner) :
    handOnAll [q] (s.setLink { s.link with promises := s.link.promises + 1, requests := [q] }) =
      s.setLink { s.link with promises := s.link.promises + 1, requests := [q] } := by
  rw [handOnAll, owner]
  rfl

/-- One that is turned away is answered at once: its promise becomes the entry. -/
theorem ownRequest_answered {s : State} {q : Request} {st : AnswerStatus} (none : s.link.requests = [])
    (promised : q.promised = true) (turned : handing q = .answered st) :
    handOnAll [q] (s.setLink { s.link with promises := s.link.promises + 1, requests := [q] }) =
      s.setLink { s.link with
        responses := s.link.responses ++
          [{ frame := { destination := nodeByte q.source, source := nodeByte s.link.ownNode, kind := 2, tag := q.tag
                        payload := [q.code, st.byte] }, train := false }] } := by
  rw [handOnAll, turned]
  dsimp only
  rw [handOnAll, answer, answerEntry, if_pos promised, ← none]
  rfl

/-- Settles O45: a request for the own node is turned away or waits as its checks say, and no row takes one in a swap. -/
theorem requestsAreCheckedThenHandedOn : Obligations.RequestsAreCheckedThenHandedOn := by
  refine ⟨fun s f code params kind payload short own still none room => ?_,
    fun s f kind payload own still none room => ?_, fun s c swapping mem => ?_⟩
  · have length : f.payload.length ≤ 240 := by rw [payload, List.length_cons]; omega
    have taken := ownRequest_taken kind length own still none room
    have codes : (requestOf f false true).code = code := by rw [Request.code, requestOf, payload]; rfl
    have turned : ∀ st, handing (requestOf f false true) = .answered st → _ := fun st h =>
      taken.trans (congrArg Host.Outcome.next (ownRequest_answered none rfl h))
    rw [codes] at turned
    have known := handing_known (q := requestOf f false true) rfl payload
    refine ⟨fun unknown => ?_, fun mem wrong => ?_, fun mem right bad => ?_, fun mem right good => ?_⟩
    · exact turned .unknown (handing_unknown (q := requestOf f false true) rfl payload unknown)
    · exact turned .length ((known mem).trans (if_pos wrong))
    · exact turned .field ((known mem).trans ((if_neg right).trans (if_pos bad)))
    · have owner := (known mem).trans ((if_neg right).trans (if_neg good))
      exact taken.trans (congrArg Host.Outcome.next (ownRequest_waits owner))
  · have length : f.payload.length ≤ 240 := by rw [payload]; exact Nat.zero_le _
    have codes : (requestOf f false true).code = 0 := by rw [Request.code, requestOf, payload]; rfl
    have taken := ownRequest_taken kind length own still none room
    rw [ownRequest_answered none rfl (handing_empty (q := requestOf f false true) rfl payload), codes] at taken
    exact taken
  · simp only [List.mem_cons, List.not_mem_nil, or_false] at mem
    rcases mem with rfl | rfl | rfl | rfl | rfl | rfl | rfl | rfl | rfl | rfl | rfl | rfl | rfl | rfl | rfl | rfl | rfl
    all_goals exact congrArg Host.Outcome.next (serve_swapping _ _ s swapping)

end Sys2Proof.Proofs

namespace Sys2Proof.Proofs
open Sys2Proof Sys2Proof.Machine Sys2Proof.Laws

/-! ### The enables stand while offers are taken (R158, R159) -/

@[simp] theorem rise_enables (n : ConditionIdx) (s : State) : (rise n s).conditions.enables = s.conditions.enables := by
  unfold rise; split <;> rfl

@[simp] theorem riseAll_enables (ns : List ConditionIdx) (s : State) :
    (riseAll ns s).conditions.enables = s.conditions.enables :=
  List.foldlRecOn (motive := fun u => u.conditions.enables = s.conditions.enables) ns _ rfl
    fun u h n _ => (rise_enables n u).trans h

@[simp] theorem queueTakes_enables (o : Offer) (s : State) :
    (queueTakes o s).conditions.enables = s.conditions.enables := by
  unfold queueTakes
  dsimp only
  split
  · rfl
  · split
    · exact rise_enables _ _
    · rfl
  · exact rise_enables _ _

@[simp] theorem takeSome_enables (k : Nat) (s : State) : (takeSome k s).conditions.enables = s.conditions.enables := by
  have one : ∀ u : State, (takeWaiting u).conditions.enables = u.conditions.enables := fun u => by
    unfold takeWaiting
    split
    · exact queueTakes_enables _ _
    · rfl
  induction k generalizing s with
  | zero => rfl
  | succ k ih => rw [takeSome, ih, one]

@[simp] theorem offer_enables (o : Offer) (s : State) : (offer o s).conditions.enables = s.conditions.enables := by
  unfold offer takeFreely
  rw [queueTakes_enables]
  split
  · rfl
  · exact takeSome_enables _ _

@[simp] theorem offerAll_enables (os : List Offer) (s : State) :
    (offerAll os s).conditions.enables = s.conditions.enables :=
  List.foldlRecOn (motive := fun u => u.conditions.enables = s.conditions.enables) os _ rfl
    fun u h o _ => (offer_enables o u).trans h

@[simp] theorem makeKnown_enables (os : List Offer) (es ls : List ConditionIdx) (s : State) :
    (makeKnown os es ls s).conditions.enables = s.conditions.enables := by
  unfold makeKnown
  dsimp only
  rw [offerAll_enables, riseAll_enables]
  rfl

/-! ### One offer among those of a list (R96 to R99) -/

section
variable {P : State → Prop} {ok : Offer → Prop} (inv : OfferInvariant P ok)
include inv

theorem OfferInvariant.setRelays {s : State} (v : Vector RelayRuntime 768) (hs : Holding P ok s) :
    Holding P ok (s.setRelays v) :=
  inv.keeps_away [.relays] hs (by intro p; cases p <;> simp [Part.same]) rfl

theorem OfferInvariant.setIndications {s : State} (v : Vector ImageEntry 512) (hs : Holding P ok s) :
    Holding P ok (s.setIndications v) :=
  inv.keeps_away [.indications] hs (by intro p; cases p <;> simp [Part.same]) rfl

end

section
variable {x : Subject} (notCondition : ∀ n, x ≠ .condition n)
include notCondition

/-- Of the offers that the members of a list make, those of other members leave the subject of member `a`: it is offered
where `a` makes its offer, and not where `a` makes none. -/
theorem offerAll_flatMap {α : Type} {f : α → List Offer} {xs : List α} {a : α} (distinct : xs.Nodup) (mem : a ∈ xs)
    (others : ∀ b, b ≠ a → ∀ o ∈ f b, OfOther x o) {s u : State} (h : Holding (Unoffered s x) (OfOther x) u) :
    (f a = [] → Holding (Unoffered s x) (OfOther x) (offerAll (xs.flatMap f) u)) ∧
      ∀ o, f a = [o] → o.subject = x →
        Holding (OfferedOnce s x o.value o.time) (OfOther x) (offerAll (xs.flatMap f) u) := by
  obtain ⟨before, behind, rfl⟩ := List.append_of_mem mem
  have apart : a ∉ before ∧ a ∉ behind := by
    have parted := List.nodup_append.1 distinct
    exact ⟨fun m => parted.2.2 a m a List.mem_cons_self rfl, (List.nodup_cons.1 parted.2.1).1⟩
  have away : ∀ ys : List α, a ∉ ys → ∀ o ∈ ys.flatMap f, OfOther x o := fun ys out o m => by
    obtain ⟨b, here, hers⟩ := List.mem_flatMap.1 m
    exact others b (fun same => out (same ▸ here)) o hers
  have cut : offerAll ((before ++ a :: behind).flatMap f) u =
      offerAll (behind.flatMap f) (offerAll (f a) (offerAll (before.flatMap f) u)) := by
    rw [List.flatMap_append, List.flatMap_cons]
    unfold offerAll
    rw [List.foldl_append, List.foldl_append]
  rw [cut]
  have begun := (unoffered_invariant notCondition s).offerAll (away before apart.1) h
  refine ⟨fun none => ?_, fun o one subject => ?_⟩
  · rw [none]
    exact (unoffered_invariant notCondition s).offerAll (away behind apart.2) begun
  · rw [one]
    exact (offeredOnce_invariant notCondition s _ _).offerAll (away behind apart.2)
      (offer_offered notCondition subject begun)

end

/-! ### The swap (R37, R138) -/

/-- The five steps of a swap, before its completion. -/
def swapCarried (t : Time) (s : State) : State :=
  carryIndications s.tables.active t (carryRelays s.tables.active t (carryCards s.tables.active t (swapBanks s)))

theorem swap_eq (t : Time) (s : State) : swap t s = finishSwap (swapCarried t s) := rfl

theorem swapCarried_changesOnly (t : Time) (s : State) :
    (swapBanks s).changesOnly (swapCarried t s) ([.cards, .input, .relays, .indications] ++ announceParts) :=
  changesOnly_then (changesOnly_then (changesOnly_mono _ (carryCards_changesOnly s.tables.active t (swapBanks s)))
    (carryRelays_changesOnly s.tables.active t _)) (carryIndications_changesOnly s.tables.active t _)

theorem swapCarried_enables (t : Time) (s : State) :
    (swapCarried t s).conditions.enables = s.conditions.enables := by
  have cards : ∀ (ns : List CardIdx) (u : State), (ns.foldl (carryCard s.tables.active) u).conditions = u.conditions :=
    fun ns u => foldl_changesOnly (fun v n => putCard_changesOnly n _ v) ns u .conditions (by decide)
  unfold swapCarried carryIndications carryRelays carryCards
  simp only [offerAll_enables, makeKnown_enables, setIndications_conditions, setRelays_conditions, cards]
  rfl

/-- What follows the card carry-over offers no CARD record (R138). -/
theorem swap_keepsOffers {P : State → Prop} {n : CardIdx} (inv : OfferInvariant P (OfOther (.card n)))
    {t : Time} {s : State}
    (h : Holding P (OfOther (.card n)) (carryCards s.tables.active t (swapBanks s))) :
    Holding P (OfOther (.card n)) (swap t s) := by
  have relays : Holding P (OfOther (.card n))
      (carryRelays s.tables.active t (carryCards s.tables.active t (swapBanks s))) := by
    refine inv.makeKnown _ _ (fun o mem => ?_) (inv.setRelays _ h)
    obtain ⟨r, -, hers⟩ := List.mem_flatMap.1 mem
    unfold swapRelayOffer at hers
    dsimp only at hers
    split at hers
    · exact absurd hers List.not_mem_nil
    · rw [List.mem_singleton.1 hers]; exact nofun
  have indications : Holding P (OfOther (.card n)) (swapCarried t s) := by
    refine inv.offerAll (fun o mem => ?_) (inv.setIndications _ relays)
    obtain ⟨i, -, hers⟩ := List.mem_flatMap.1 mem
    unfold swapIndicationOffer at hers
    dsimp only at hers
    split at hers
    · exact absurd hers List.not_mem_nil
    split at hers
    · rw [List.mem_singleton.1 hers]; exact nofun
    · exact absurd hers List.not_mem_nil
  rw [swap_eq]
  unfold finishSwap
  dsimp only
  refine inv.announce _ _ (fun _ mem => absurd mem List.not_mem_nil)
    (inv.keeps_away [.engine, .tables, .link] indications ?_ ?_)
  · intro p
    cases (swapCarried t s).tables.checker <;> cases p <;> simp [Part.same]
  · cases (swapCarried t s).tables.checker <;> simp

/-- The state of a swap with each card's context written, before the cards' records are offered. -/
def cardsCarried (s : State) : State := (List.finRange 16).foldl (carryCard s.tables.active) (swapBanks s)

theorem carryCards_eq (t : Time) (s : State) :
    carryCards s.tables.active t (swapBanks s) =
      makeKnown ((List.finRange 16).flatMap fun n => cardOffers n t s.cards[n] (cardsCarried s).cards[n]) []
        [cCardDown, cProvingFail] (cardsCarried s) := rfl

theorem cardsCarried_changesOnly (s : State) : s.changesOnly (cardsCarried s) [.tables, .cards, .input] := by
  have banks : s.changesOnly (swapBanks s) [.tables] := by intro p; cases p <;> simp [Part.same, swapBanks]
  exact changesOnly_then (changesOnly_mono _ banks)
    (foldl_changesOnly (fun v m => putCard_changesOnly m _ v) (List.finRange 16) (swapBanks s))

theorem cardsCarried_card (t : Time) (s : State) (n : CardIdx) : (cardsCarried s).cards[n] = (swap t s).cards[n] := by
  have carried := (foldl_carryCard s.tables.active (List.nodup_finRange 16) (swapBanks s) n).1
  rw [if_pos (List.mem_finRange n)] at carried
  exact carried.trans (swap_card t s n).1.symm

theorem cardOffers_other {n m : CardIdx} (other : m ≠ n) (t : Time) (before after : CardContext) :
    ∀ o ∈ cardOffers m t before after, OfOther (.card n) o := by
  intro o mem
  unfold cardOffers at mem
  split at mem
  · exact absurd mem List.not_mem_nil
  · rw [List.mem_singleton.1 mem]
    exact fun same => other (Subject.card.inj same)

/-- A swap offers the CARD record of a card whose state or proving status it changes, and of no other (R35, R37). -/
theorem swap_record {s : State} (none : s.conditions.waiting = []) (t : Time) (n : CardIdx) :
    let c := s.cards[n]
    let x := (swap t s).cards[n]
    if c.state = x.state ∧ c.proving = x.proving then s.NotOffered (swap t s) (.card n)
    else s.Offered (swap t s) (.card n) (.card x.state x.proving) t := by
  have inv := unoffered_invariant (card_not_condition n) s
  have put := cardsCarried_changesOnly s
  have begun := inv.keeps_away _ (unoffered_refl (.card n) none) put
    (congrArg ConditionUnit.waiting (put .conditions (by decide)))
  obtain ⟨unoffered, offered⟩ := offerAll_flatMap (card_not_condition n)
    (f := fun m => cardOffers m t s.cards[m] (cardsCarried s).cards[m])
    (List.nodup_finRange 16) (List.mem_finRange n) (fun m other => cardOffers_other other t _ _)
    (inv.riseAll ([] ++ [cCardDown, cProvingFail].filter _)
      (inv.keeps_away _ begun (followLive_changesOnly [cCardDown, cProvingFail] _) rfl))
  have after := cardsCarried_card t s n
  intro c x
  by_cases same : c.state = x.state ∧ c.proving = x.proving
  · rw [if_pos same]
    exact (swap_keepsOffers inv (unoffered (by rw [after]; exact if_pos same))).1.2
  · rw [if_neg same]
    exact (swap_keepsOffers (offeredOnce_invariant (card_not_condition n) s _ _) (offered
      { subject := .card n, value := .card x.state x.proving, time := t } (by rw [after]; exact if_neg same) rfl)).1

/-- A swap writes no Input Image value (R15, R138). -/
theorem swap_values (t : Time) (s : State) : (swap t s).input.values = s.input.values := by
  have written : (cardsCarried s).input.values = s.input.values :=
    List.foldlRecOn (motive := fun v : State => v.input.values = s.input.values) _ _ rfl fun _ h _ _ => h
  have known : (carryCards s.tables.active t (swapBanks s)).input = (cardsCarried s).input := by
    rw [carryCards_eq]
    exact makeKnown_changesOnly _ _ _ _ .input (by decide)
  rw [(swap_cards t s).2, known, written]

/-- The completion of the swap that a COMMIT waits for: its OK joins the deferred answers (R138, R151). -/
theorem finishSwap_waiting {s : State} {w : CommitWork} (waiting : s.tables.checker = .swapWaiting w) :
    finishSwap s = announce [] [cCommitDone] [] (deferAnswer w .ok (be16 s.tables.generation)
      ((s.setEngine { s.engine with state := .idle }).setTables { s.tables with checker := .idle })) := by
  unfold finishSwap
  rw [waiting]

/-- The OK of a COMMIT and COMMIT_DONE at the end of its swap (R138, R158). -/
theorem swap_finishes {s : State} {w : CommitWork} (t : Time) (waiting : s.tables.checker = .swapWaiting w) :
    (swap t s).link = { s.link with
      deferred := s.link.deferred ++
        (if w.answered then
          [{ destination := nodeByte w.source, source := nodeByte s.link.ownNode, kind := 2, tag := w.tag
             payload := 0x23#8 :: 0 :: be16 (s.tables.generation + 1) }]
        else []) } ∧
      (s.conditions.enables[cCommitDone] = true → (swap t s).conditions.latched[cCommitDone] = true) := by
  have frame := swapCarried_changesOnly t s
  have tables : (swapCarried t s).tables = (swapBanks s).tables := frame .tables (by decide)
  have link : (swapCarried t s).link = s.link := frame .link (by decide)
  have still : (swapCarried t s).tables.checker = .swapWaiting w := by rw [tables]; exact waiting
  have generation : (swapCarried t s).tables.generation = s.tables.generation + 1 := by rw [tables]; rfl
  rw [swap_eq, finishSwap_waiting still, generation]
  constructor
  · rw [announce_link, deferAnswer_spec]
    dsimp only [setTables_link, setEngine_link, responseFrame]
    rw [link]
    split
    · rfl
    · rw [List.append_nil]
  · intro enabled
    refine announce_latched [] [] ?_
    rw [deferAnswer_conditions]
    dsimp only [setTables_conditions, setEngine_conditions]
    rw [swapCarried_enables]
    exact enabled

/-- Settles O41: the swap's steps, each by what it does to its own part. -/
theorem swapInstallsStagingAndCarriesCards : Obligations.SwapInstallsStagingAndCarriesCards := by
  intro s taken w swapping waiting none
  obtain ⟨tables, engine⟩ := swap_tables taken s
  obtain ⟨link, done⟩ := swap_finishes taken waiting
  have step : exec .commitSwapComplete s = .next (swap taken s) := by
    show (.next _ : Result) = _
    rw [swapping]
    exact congrArg Host.Outcome.next (handOn_nil _ (by rw [link]; exact none))
  refine ⟨_, step, tables, engine, link, done, fun n => ?_, swap_values taken s, fun settled n => ?_, ?_⟩
  · obtain ⟨card, known⟩ := swap_card taken s n
    dsimp only
    rw [known, card]
    exact ⟨rfl, rfl⟩
  · exact swap_record settled taken n
  · exact changesOnly_mono _ (swap_changesOnly taken s)

end Sys2Proof.Proofs

namespace Sys2Proof.Proofs
open Sys2Proof Sys2Proof.Machine Sys2Proof.Laws

/-! ### What one sample does to the contact state (R45 to R51) -/

/-- Does a sample of UP, DOWN or BOTH count towards its candidate: it differs from the contact state, and is not BOTH in
CONTRADICTORY (R45, R49)? -/
def Counts (v : CandidateValue) (contact : Contact) : Prop :=
  contact ≠ v.contact ∧ ∀ y, v = .both → contact ≠ .contradictory y

/-- What stage 3 can make of a record at one sample: UNPROVEN at an unknown input; open contacts; a sample that clears the
candidate; one that counts and does not settle; and one that settles, as a contradiction, an accepted change, a return from
a transit or a recovery. -/
inductive SampleCase (e : RelayEntry) (raw : Raw) (t : Time) (r : RelayRuntime) : Transition → Prop
  | unknown (is : raw = .unknown) : SampleCase e raw t r (.plain (r.toUnproven .inputUnknown))
  | opened (is : raw = .opened) : SampleCase e raw t r (.plain (openSample e r))
  | absorbed (v : CandidateValue) (is : raw = v.raw) (idle : ¬Counts v r.contact) :
      SampleCase e raw t r (.plain r.clearCandidate)
  | counted (v : CandidateValue) (is : raw = v.raw) (counts : Counts v r.contact)
      (below : (r.countCandidate v t).candidateLength < e.settleCount v) :
      SampleCase e raw t r (.plain (r.countCandidate v t))
  | contradicted (is : raw = .both) (counts : Counts .both r.contact)
      (reached : e.settleCount .both ≤ (r.countCandidate .both t).candidateLength) :
      SampleCase e raw t r { runtime := (r.countCandidate .both t).toContradictory .bothClosed, accepted := false
                             since := some (r.countCandidate .both t).candidateTime }
  | changed (d : Direction) (is : raw = d.candidate.raw) (change : acceptedBetween r.priorSteady r.contact (.steady d))
      (reached : e.settleCount d.candidate ≤ (r.countCandidate d.candidate t).candidateLength) :
      SampleCase e raw t r (settleChange d (r.countCandidate d.candidate t))
  | returned (d : Direction) (is : raw = d.candidate.raw) (transit : r.contact = .transit) (prior : r.priorSteady = some d)
      (reached : e.settleCount d.candidate ≤ (r.countCandidate d.candidate t).candidateLength) :
      SampleCase e raw t r (.plain ((r.countCandidate d.candidate t).toSteady d))
  | recovered (d : Direction) (is : raw = d.candidate.raw) (recovery : recoveryBetween r.contact (.steady d))
      (reached : e.settleCount d.candidate ≤ (r.countCandidate d.candidate t).candidateLength) :
      SampleCase e raw t r (settleRecovery d (r.countCandidate d.candidate t))

/-- Counting a candidate touches the candidate alone. -/
theorem countCandidate_eq (v : CandidateValue) (t : Time) (r : RelayRuntime) :
    r.countCandidate v t =
      { r with
        candidate := some v
        candidateLength := if r.candidate = some v then min 255 (r.candidateLength + 1) else 1
        candidateTime := if r.candidate = some v then r.candidateTime else t } := by
  unfold RelayRuntime.countCandidate
  split
  next same => simp only [raiseTo, ← same]
  next => rfl

theorem counts_direction (d : Direction) (contact : Contact) : Counts d.candidate contact ↔ contact ≠ .steady d := by
  cases d <;> exact ⟨fun h => h.1, fun h => ⟨h, fun _ => nofun⟩⟩

theorem counts_both (contact : Contact) : Counts .both contact ↔ ∀ y, contact ≠ .contradictory y :=
  ⟨fun h y => h.2 y rfl, fun h => ⟨h _, fun y _ => h y⟩⟩

/-- A direction that counts, from each contact state it can be counted in. -/
theorem directionCounted_case {e : RelayEntry} {d : Direction} {raw : Raw} {t : Time} {r : RelayRuntime}
    (is : raw = d.candidate.raw) (counts : r.contact ≠ .steady d) {settle : RelayRuntime → Transition}
    (settled : e.settleCount d.candidate ≤ (r.countCandidate d.candidate t).candidateLength →
      SampleCase e raw t r (settle (r.countCandidate d.candidate t))) :
    SampleCase e raw t r (directionCounted e d t r settle) := by
  unfold directionCounted RelayRuntime.settled
  dsimp only
  split
  next reached => exact settled (of_decide_eq_true reached)
  next below =>
    exact .counted d.candidate is ((counts_direction d _).2 counts)
      (Nat.lt_of_not_le fun reached => below (decide_eq_true reached))

theorem directionSample_case {e : RelayEntry} {d : Direction} {raw : Raw} {t : Time} {r : RelayRuntime}
    (is : raw = d.candidate.raw) : SampleCase e raw t r (directionSample e d t r) := by
  unfold directionSample
  split
  next s steady =>
    split
    next same => exact .absorbed d.candidate is fun counts => (counts_direction d _).1 counts (same ▸ steady)
    next other =>
      exact directionCounted_case is (by simpa [steady] using other)
        (.changed d is (by simpa [steady, acceptedBetween] using other))
  next transit =>
    refine directionCounted_case is (by simp [transit]) fun reached => ?_
    unfold settleTransit
    split
    next prior => exact .returned d is transit (by simpa [countCandidate_eq] using prior) reached
    next prior =>
      exact .changed d is (by simpa [transit, acceptedBetween, countCandidate_eq] using prior) reached
  next unproven =>
    exact directionCounted_case is (by simp [unproven]) (.recovered d is (by simp [unproven, recoveryBetween]))
  next contradictory =>
    exact directionCounted_case is (by simp [contradictory]) (.recovered d is (by simp [contradictory, recoveryBetween]))

theorem bothSample_case {e : RelayEntry} {raw : Raw} {t : Time} {r : RelayRuntime} (is : raw = .both) :
    SampleCase e raw t r (bothSample e t r) := by
  unfold bothSample
  split
  next y contradictory => exact .absorbed .both is fun counts => counts.2 y rfl contradictory
  next proven =>
    have counts : Counts .both r.contact := (counts_both _).2 proven
    unfold bothCounted RelayRuntime.settled
    dsimp only
    split
    next reached => exact .contradicted is counts (of_decide_eq_true reached)
    next below => exact .counted .both is counts (Nat.lt_of_not_le fun reached => below (decide_eq_true reached))

/-- One of the cases holds of every sample. -/
theorem stage3_case (e : RelayEntry) (raw : Raw) (t : Time) (r : RelayRuntime) :
    SampleCase e raw t r (stage3 e raw t r) := by
  cases raw with
  | up => exact directionSample_case (d := .up) rfl
  | down => exact directionSample_case (d := .down) rfl
  | opened => exact .opened rfl
  | both => exact bothSample_case rfl
  | unknown => exact .unknown rfl

/-- Open contacts move the contact state, the prior steady, the candidate and the transit length alone. -/
theorem openSample_keeps (e : RelayEntry) (r : RelayRuntime) :
    (openSample e r).overlay = r.overlay ∧ (openSample e r).runLength = r.runLength ∧
      (openSample e r).flickerLevel = r.flickerLevel ∧ (openSample e r).flashCount = r.flashCount ∧
      (openSample e r).status = r.status ∧ (openSample e r).statusTime = r.statusTime := by
  unfold openSample RelayRuntime.openCounted
  split
  · exact ⟨rfl, rfl, rfl, rfl, rfl, rfl⟩
  · split <;> exact ⟨rfl, rfl, rfl, rfl, rfl, rfl⟩
  · split <;> exact ⟨rfl, rfl, rfl, rfl, rfl, rfl⟩
  · exact ⟨rfl, rfl, rfl, rfl, rfl, rfl⟩

/-- Open contacts neither settle a direction nor close both contacts. -/
theorem openSample_contact (e : RelayEntry) (r : RelayRuntime) :
    (openSample e r).contact = r.contact ∨ (openSample e r).contact = .transit ∨
      (openSample e r).contact = .contradictory .transitTimeout := by
  unfold openSample RelayRuntime.openCounted
  split
  · exact .inr (.inl rfl)
  · split
    · exact .inr (.inr rfl)
    · exact .inl rfl
  · split
    · exact .inr (.inr rfl)
    · exact .inl rfl
  · exact .inl rfl

/-- No relay changes, recovers or is newly contradicted where it stays as it is. -/
theorem no_settle_refl (prior : Option Direction) (c : Contact) :
    ¬acceptedBetween prior c c ∧ ¬recoveryBetween c c ∧
      ¬((∀ y, c ≠ .contradictory y) ∧ c = .contradictory .bothClosed) := by
  cases c <;> simp [acceptedBetween, recoveryBetween]

theorem no_settle_open (prior : Option Direction) (e : RelayEntry) (r : RelayRuntime) :
    let c := (openSample e r).contact
    ¬acceptedBetween prior r.contact c ∧ ¬recoveryBetween r.contact c ∧
      ¬((∀ y, r.contact ≠ .contradictory y) ∧ c = .contradictory .bothClosed) := by
  intro c
  rcases openSample_contact e r with same | transit | timeout
  · simp only [c, same]; exact no_settle_refl prior r.contact
  · cases old : r.contact <;> simp [c, transit, acceptedBetween, recoveryBetween]
  · cases old : r.contact <;> simp [c, timeout, acceptedBetween, recoveryBetween]

end Sys2Proof.Proofs

namespace Sys2Proof.Proofs
open Sys2Proof Sys2Proof.Machine Sys2Proof.Laws

/-! ### What stage 3 says of a sample: accepted changes, recoveries and the rest of the record (R44, R50, R51, R53) -/

theorem recovered_not_accepted {prior : Option Direction} {before after : Contact} (h : recoveryBetween before after) :
    ¬acceptedBetween prior before after := by
  cases before <;> simp_all [recoveryBetween, acceptedBetween]

theorem accepted_not_recovered {prior : Option Direction} {before after : Contact} (h : acceptedBetween prior before after) :
    ¬recoveryBetween before after := fun k => recovered_not_accepted k h

/-- The flicker, overlay and status fields of one record stand in another. -/
structure FlashAs (x y : RelayRuntime) : Prop where
  flickerLevel : x.flickerLevel = y.flickerLevel
  overlay : x.overlay = y.overlay
  flashCount : x.flashCount = y.flashCount
  status : x.status = y.status
  statusTime : x.statusTime = y.statusTime

section
variable {e : RelayEntry} {raw : Raw} {t : Time} {r : RelayRuntime} {tr : Transition} (h : SampleCase e raw t r tr)
include h

/-- A sample is reported as an accepted change exactly where the contact states and the prior steady state show one (R50). -/
theorem SampleCase.accepted_iff : tr.accepted = true ↔ acceptedBetween r.priorSteady r.contact tr.runtime.contact := by
  cases h with
  | unknown _ => exact iff_of_false nofun (by cases r.contact <;> exact id)
  | opened _ => exact iff_of_false nofun (no_settle_open _ e r).1
  | absorbed _ _ _ => exact iff_of_false nofun (no_settle_refl _ r.contact).1
  | counted _ _ _ _ =>
    rw [countCandidate_eq]
    exact iff_of_false nofun (no_settle_refl _ r.contact).1
  | contradicted _ _ _ => exact iff_of_false nofun (by cases r.contact <;> exact id)
  | changed _ _ change _ => exact iff_of_true rfl change
  | returned d _ transit prior _ =>
    rw [transit, prior]
    exact iff_of_false nofun fun other => other rfl
  | recovered _ _ recovery _ => exact iff_of_false nofun (recovered_not_accepted recovery)

/-- A sample leaves the run length, but for a recovery, which sets it to 0 (R44, R49). -/
theorem SampleCase.runLength :
    (recoveryBetween r.contact tr.runtime.contact → tr.runtime.runLength = 0) ∧
      (¬recoveryBetween r.contact tr.runtime.contact → tr.runtime.runLength = r.runLength) := by
  cases h with
  | unknown _ => exact ⟨(absurd · (by cases r.contact <;> exact id)), fun _ => rfl⟩
  | opened _ => exact ⟨(absurd · (no_settle_open none e r).2.1), fun _ => (openSample_keeps e r).2.1⟩
  | absorbed _ _ _ => exact ⟨(absurd · (no_settle_refl none r.contact).2.1), fun _ => rfl⟩
  | counted _ _ _ _ =>
    rw [countCandidate_eq]
    exact ⟨(absurd · (no_settle_refl none r.contact).2.1), fun _ => rfl⟩
  | contradicted _ _ _ =>
    rw [countCandidate_eq]
    exact ⟨(absurd · (by cases r.contact <;> exact id)), fun _ => rfl⟩
  | changed _ _ change _ =>
    rw [countCandidate_eq]
    exact ⟨(absurd · (accepted_not_recovered change)), fun _ => rfl⟩
  | returned _ _ transit _ _ =>
    rw [countCandidate_eq, transit]
    exact ⟨False.elim, fun _ => rfl⟩
  | recovered _ _ recovery _ => exact ⟨fun _ => rfl, (absurd recovery ·)⟩

/-- A sample leaves the flicker level, the status and its time to the later stages; only an unknown input ends FLASHING and
clears the flash count before them (R51). -/
theorem SampleCase.flash :
    FlashAs tr.runtime { r with
      overlay := if raw = .unknown ∧ r.overlay = .flashing then .none else r.overlay
      flashCount := if raw = .unknown then 0 else r.flashCount } := by
  have named : ∀ {v : CandidateValue}, raw = v.raw → raw ≠ .unknown := by rintro (_ | _ | _) rfl <;> exact nofun
  have plain (known : raw ≠ .unknown) (same : FlashAs tr.runtime r) : FlashAs tr.runtime { r with
      overlay := if raw = .unknown ∧ r.overlay = .flashing then .none else r.overlay
      flashCount := if raw = .unknown then 0 else r.flashCount } := by
    rw [if_neg known, if_neg fun both => known both.1]
    exact same
  cases h with
  | unknown is => subst is; exact ⟨rfl, by simp [Transition.plain, RelayRuntime.toUnproven], rfl, rfl, rfl⟩
  | opened is =>
    obtain ⟨overlay, -, level, count, status, time⟩ := openSample_keeps e r
    exact plain (by simp [is]) ⟨level, overlay, count, status, time⟩
  | absorbed v is _ => exact plain (named is) ⟨rfl, rfl, rfl, rfl, rfl⟩
  | counted v is _ _ => exact plain (named is) (countCandidate_eq v t r ▸ ⟨rfl, rfl, rfl, rfl, rfl⟩)
  | contradicted is _ _ =>
    exact plain (named (v := .both) is) (countCandidate_eq .both t r ▸ ⟨rfl, rfl, rfl, rfl, rfl⟩)
  | changed d is _ _ => exact plain (named is) (countCandidate_eq d.candidate t r ▸ ⟨rfl, rfl, rfl, rfl, rfl⟩)
  | returned d is _ _ _ => exact plain (named is) (countCandidate_eq d.candidate t r ▸ ⟨rfl, rfl, rfl, rfl, rfl⟩)
  | recovered d is _ _ => exact plain (named is) (countCandidate_eq d.candidate t r ▸ ⟨rfl, rfl, rfl, rfl, rfl⟩)

end

/-! ### What stages 4 to 8 do to the record that stage 3 leaves (R59 to R69) -/

/-- The contact fields of one record stand in another: contact state, candidate, transit length and prior steady. -/
structure ContactsAs (x y : RelayRuntime) : Prop where
  contact : x.contact = y.contact
  candidate : x.candidate = y.candidate
  candidateLength : x.candidateLength = y.candidateLength
  candidateTime : x.candidateTime = y.candidateTime
  transitLength : x.transitLength = y.transitLength
  priorSteady : x.priorSteady = y.priorSteady

theorem inWindow_iff {e : RelayEntry} {l : Nat} :
    e.inWindow l = true ↔ ∃ w, e.flashWindow = some w ∧ w.fmin ≤ l ∧ l ≤ w.fmax := by
  unfold RelayEntry.inWindow
  cases e.flashWindow <;> simp

theorem confirmed_iff {e : RelayEntry} {n : Nat} :
    e.confirmed n = true ↔ ∃ w, e.flashWindow = some w ∧ w.fconf ≤ n := by
  unfold RelayEntry.confirmed
  cases e.flashWindow <;> simp

/-- Has the run passed Fmax (R66)? -/
def pastFmax (e : RelayEntry) (l : Nat) : Bool :=
  match e.flashWindow with
  | some w => w.fmax < l
  | none => false

theorem pastFmax_iff {e : RelayEntry} {l : Nat} : pastFmax e l = true ↔ ∃ w, e.flashWindow = some w ∧ w.fmax < l := by
  unfold pastFmax
  cases e.flashWindow <;> simp

/-- A change that has just been accepted is not past Fmax. -/
@[simp] theorem pastFmax_zero (e : RelayEntry) : pastFmax e 0 = false := by
  unfold pastFmax
  cases e.flashWindow <;> simp

/-- Stage 4, field by field (R50, R63 to R65). -/
theorem stage4_eq (e : RelayEntry) (k : ClassRecord) (tr : Transition) :
    let r := tr.runtime
    let inW := e.inWindow r.runLength
    stage4 e k tr =
      { r with
        runLength := if tr.accepted then 0 else r.runLength
        flickerLevel := if tr.accepted && !inW then min 255 (r.flickerLevel + k.weight) else r.flickerLevel
        flashCount := if tr.accepted then (if inW then min 7 (r.flashCount + 1) else 0) else r.flashCount
        overlay :=
          if tr.accepted then
            if inW then (if e.confirmed (min 7 (r.flashCount + 1)) && r.overlay = .none then .flashing else r.overlay)
            else if r.overlay = .flashing then .none else r.overlay
          else r.overlay } := by
  unfold stage4 acceptedChange
  cases tr.accepted
  · rfl
  · cases inside : e.inWindow tr.runtime.runLength <;> simp [inside, inWindowChange, countedChange, raiseTo]

/-- Stage 5, field by field (R66). -/
theorem stage5_eq (e : RelayEntry) (r : RelayRuntime) :
    let ends := r.overlay = .flashing ∧ pastFmax e r.runLength = true
    stage5 e r = { r with
      overlay := if ends then .none else r.overlay
      flashCount := if ends then 0 else r.flashCount } := by
  unfold stage5 pastFmax
  cases e.flashWindow with
  | none => simp
  | some w =>
    simp only [decide_eq_true_eq]
    split <;> rfl

/-- Stage 8 writes the status and its time alone (R52, R53). -/
theorem stage8_eq (t : Time) (r : RelayRuntime) :
    stage8 t r =
      { r with
        status := deriveStatus r.contact r.overlay
        statusTime := if deriveStatus r.contact r.overlay = r.status then r.statusTime else t } := by
  unfold stage8
  dsimp only
  split
  next same => rw [same]
  next => rfl

/-- Stage 7, field by field (R68, R69). -/
theorem stage7_eq (k : ClassRecord) (r : RelayRuntime) :
    let flickers := k.upper < r.flickerLevel ∨ r.overlay = .flickering
    let ends := flickers ∧ r.flickerLevel ≤ k.lower
    stage7 k r =
      { r with
        overlay := if ends then .none else if flickers then .flickering else r.overlay
        flashCount := if ends then 0 else r.flashCount } := by
  unfold stage7 flickerEnd flickerStart
  by_cases above : k.upper < r.flickerLevel <;> by_cases low : r.flickerLevel ≤ k.lower <;>
    cases overlay : r.overlay <;> simp [above, low, overlay]
  all_goals rw [← overlay]

/-! ### What stages 4 to 8 leave alone -/

theorem ContactsAs.trans {x y z : RelayRuntime} (h : ContactsAs x y) (k : ContactsAs y z) : ContactsAs x z :=
  ⟨h.contact.trans k.contact, h.candidate.trans k.candidate, h.candidateLength.trans k.candidateLength,
    h.candidateTime.trans k.candidateTime, h.transitLength.trans k.transitLength, h.priorSteady.trans k.priorSteady⟩

/-- Two records agree in contact fields, status and status time. -/
def ContactsAndStatusAs (x y : RelayRuntime) : Prop := ContactsAs x y ∧ x.status = y.status ∧ x.statusTime = y.statusTime

theorem ContactsAndStatusAs.trans {x y z : RelayRuntime} (h : ContactsAndStatusAs x y) (k : ContactsAndStatusAs y z) :
    ContactsAndStatusAs x z :=
  ⟨h.1.trans k.1, h.2.1.trans k.2.1, h.2.2.trans k.2.2⟩

theorem stage4_keeps (e : RelayEntry) (k : ClassRecord) (tr : Transition) : ContactsAndStatusAs (stage4 e k tr) tr.runtime := by
  rw [stage4_eq]
  exact ⟨⟨rfl, rfl, rfl, rfl, rfl, rfl⟩, rfl, rfl⟩

theorem stage5_keeps (e : RelayEntry) (r : RelayRuntime) :
    ContactsAndStatusAs (stage5 e r) r ∧ (stage5 e r).runLength = r.runLength ∧
      (stage5 e r).flickerLevel = r.flickerLevel := by
  rw [stage5_eq]
  exact ⟨⟨⟨rfl, rfl, rfl, rfl, rfl, rfl⟩, rfl, rfl⟩, rfl, rfl⟩

theorem stage6_keeps (k : ClassRecord) (r : RelayRuntime) : ContactsAndStatusAs (stage6 k r) r :=
  ⟨⟨rfl, rfl, rfl, rfl, rfl, rfl⟩, rfl, rfl⟩

theorem stage7_keeps (k : ClassRecord) (r : RelayRuntime) :
    ContactsAndStatusAs (stage7 k r) r ∧ (stage7 k r).runLength = r.runLength ∧
      (stage7 k r).flickerLevel = r.flickerLevel := by
  rw [stage7_eq]
  exact ⟨⟨⟨rfl, rfl, rfl, rfl, rfl, rfl⟩, rfl, rfl⟩, rfl, rfl⟩

theorem stage8_keeps (t : Time) (r : RelayRuntime) :
    ContactsAs (stage8 t r) r ∧ (stage8 t r).overlay = r.overlay ∧ (stage8 t r).runLength = r.runLength ∧
      (stage8 t r).flickerLevel = r.flickerLevel ∧ (stage8 t r).flashCount = r.flashCount := by
  rw [stage8_eq]
  exact ⟨⟨rfl, rfl, rfl, rfl, rfl, rfl⟩, rfl, rfl, rfl, rfl⟩

theorem stages4to7_keeps (e : RelayEntry) (k : ClassRecord) (tr : Transition) :
    ContactsAndStatusAs (stages4to7 e k tr) tr.runtime :=
  (((stage7_keeps k _).1.trans (stage6_keeps k _)).trans (stage5_keeps e _).1).trans (stage4_keeps e k tr)

end Sys2Proof.Proofs

namespace Sys2Proof.Proofs
open Sys2Proof Sys2Proof.Machine Sys2Proof.Laws

/-! ### The overlay and the flash count over stages 4 to 7 (R63 to R69) -/

/-- The run length that a transition leaves (R44, R50). -/
def runAfter (tr : Transition) : Nat := if tr.accepted then 0 else tr.runtime.runLength

/-- Does a transition bring an accepted change out of the flash window (R65)? -/
def outsideWindow (e : RelayEntry) (tr : Transition) : Prop :=
  tr.accepted = true ∧ ¬e.inWindow tr.runtime.runLength = true

/-- Does a transition bring an in-window change that confirms the flashing (R64)? -/
def confirmsFlashing (e : RelayEntry) (tr : Transition) : Prop :=
  tr.accepted = true ∧ e.inWindow tr.runtime.runLength = true ∧
    e.confirmed (min 7 (tr.runtime.flashCount + 1)) = true

/-- Does a transition end FLASHING: out of the window, or past Fmax (R65, R66)? -/
def endsFlashing (e : RelayEntry) (tr : Transition) : Prop := outsideWindow e tr ∨ pastFmax e (runAfter tr) = true

section
variable (e : RelayEntry) (k : ClassRecord) (tr : Transition)

theorem stages4and5_flickering (h : tr.runtime.overlay = .flickering) :
    (stage5 e (stage4 e k tr)).overlay = .flickering := by
  rw [stage5_eq, stage4_eq]
  simp [h]

theorem stages4and5_none (h : tr.runtime.overlay = .none) :
    (confirmsFlashing e tr → (stage5 e (stage4 e k tr)).overlay = .flashing) ∧
      (¬confirmsFlashing e tr → (stage5 e (stage4 e k tr)).overlay = .none) := by
  unfold confirmsFlashing
  rw [stage5_eq, stage4_eq]
  cases tr.accepted with
  | false => simp [h]
  | true =>
    cases e.inWindow tr.runtime.runLength with
    | false => simp [h]
    | true => cases e.confirmed (min 7 (tr.runtime.flashCount + 1)) <;> simp [h]

theorem stages4and5_flashing (h : tr.runtime.overlay = .flashing) :
    (endsFlashing e tr → (stage5 e (stage4 e k tr)).overlay = .none) ∧
      (¬endsFlashing e tr → (stage5 e (stage4 e k tr)).overlay = .flashing) := by
  unfold endsFlashing outsideWindow runAfter
  rw [stage5_eq, stage4_eq]
  cases tr.accepted with
  | false => simp [h]
  | true => cases e.inWindow tr.runtime.runLength <;> simp [h]

theorem stages4and5_flashCount :
    let cleared := outsideWindow e tr ∨ (tr.runtime.overlay = .flashing ∧ endsFlashing e tr)
    (cleared → (stage5 e (stage4 e k tr)).flashCount = 0) ∧
      (¬cleared → (stage5 e (stage4 e k tr)).flashCount =
        if tr.accepted then min 7 (tr.runtime.flashCount + 1) else tr.runtime.flashCount) := by
  unfold endsFlashing outsideWindow runAfter
  rw [stage5_eq, stage4_eq]
  cases tr.accepted with
  | false =>
    by_cases past : tr.runtime.overlay = .flashing ∧ pastFmax e tr.runtime.runLength = true
    · simp [past]
    · simp [past]
  | true => cases e.inWindow tr.runtime.runLength <;> simp

end

section
variable {k : ClassRecord} (hysteresis : k.lower < k.upper) (r : RelayRuntime)
include hysteresis

/-- A level above U shows FLICKERING (R68). -/
theorem stage7_above (h : k.upper < r.flickerLevel) : stage7 k r = { r with overlay := .flickering } := by
  have above : ¬r.flickerLevel ≤ k.lower := by omega
  rw [stage7_eq]
  simp [h, above]

omit hysteresis in
/-- At a level that is not above U an overlay other than FLICKERING stands; FLICKERING stands above Lo (R68, R69). -/
theorem stage7_stands (h : ¬k.upper < r.flickerLevel) (low : r.overlay = .flickering → k.lower < r.flickerLevel) :
    stage7 k r = r := by
  rw [stage7_eq]
  by_cases flickers : r.overlay = .flickering
  · have above : ¬r.flickerLevel ≤ k.lower := Nat.not_le.2 (low flickers)
    simp [h, flickers, above]
    rw [← flickers]
  · simp [h, flickers]

omit hysteresis in
/-- FLICKERING ends, with the flash count, at a level at or below Lo (R69). -/
theorem stage7_ends (flickers : r.overlay = .flickering) (low : r.flickerLevel ≤ k.lower) :
    stage7 k r = { r with overlay := .none, flashCount := 0 } := by
  rw [stage7_eq]
  simp [flickers, low]

end

/-! ### One sample of one relay, field by field (section 3.4) -/

/-- Stages 1 to 3 of one sample. -/
def transition (e : RelayEntry) (raw : Raw) (t : Time) (r : RelayRuntime) : Transition := stage3 e raw t (stage1 r)

section
variable (e : RelayEntry) (k : ClassRecord) (raw : Raw) (t : Time) (r : RelayRuntime)

theorem sampleRelay_eq : sampleRelay e k raw t r =
    stage8 ((transition e raw t r).since.getD t) (stages4to7 e k (transition e raw t r)) := rfl

theorem transition_case : SampleCase e raw t (stage1 r) (transition e raw t r) := stage3_case e raw t (stage1 r)

/-- The contact fields after a sample are those that stage 3 leaves. -/
theorem sampleRelay_contacts : ContactsAs (sampleRelay e k raw t r) (transition e raw t r).runtime :=
  (stage8_keeps _ (stages4to7 e k (transition e raw t r))).1.trans (stages4to7_keeps e k (transition e raw t r)).1

theorem accepted_iff_between : (transition e raw t r).accepted = true ↔
    acceptedBetween r.priorSteady r.contact (sampleRelay e k raw t r).contact := by
  rw [(sampleRelay_contacts e k raw t r).contact]
  exact (transition_case e raw t r).accepted_iff

/-- An accepted change takes the run length that stage 1 has raised (R44, R50). -/
theorem transition_runLength (accepted : (transition e raw t r).accepted = true) :
    (transition e raw t r).runtime.runLength = min 255 (r.runLength + 1) :=
  (transition_case e raw t r).runLength.2 (accepted_not_recovered ((transition_case e raw t r).accepted_iff.1 accepted))

theorem sampleRelay_run : (sampleRelay e k raw t r).runLength = runAfter (transition e raw t r) := by
  have eight := (stage8_keeps ((transition e raw t r).since.getD t) (stages4to7 e k (transition e raw t r))).2.2.1
  have seven := (stage7_keeps k (stage6 k (stage5 e (stage4 e k (transition e raw t r))))).2.1
  have five := (stage5_keeps e (stage4 e k (transition e raw t r))).2.1
  rw [sampleRelay_eq, eight, stages4to7, seven]
  exact five.trans (congrArg RelayRuntime.runLength (stage4_eq e k (transition e raw t r)))

/-- The run length after a sample: 0 at an accepted change or a recovery, else raised by 1 (R44, R49, R50). -/
theorem sampleRelay_runLength :
    let x := sampleRelay e k raw t r
    let settles := acceptedBetween r.priorSteady r.contact x.contact ∨ recoveryBetween r.contact x.contact
    (settles → x.runLength = 0) ∧ (¬settles → x.runLength = min 255 (r.runLength + 1)) := by
  obtain ⟨recovered, still⟩ := (transition_case e raw t r).runLength
  have accepted := accepted_iff_between e k raw t r
  have run := sampleRelay_run e k raw t r
  rw [← (sampleRelay_contacts e k raw t r).contact] at recovered still
  unfold runAfter at run
  refine ⟨fun settles => ?_, fun none => ?_⟩
  · rw [run]
    split
    · rfl
    next unchanged => exact recovered (settles.resolve_left (mt accepted.2 unchanged))
  · rw [run, if_neg fun a => none (.inl (accepted.1 a))]
    exact still fun h => none (.inr h)

/-- The flicker level after a sample: the weight added at an accepted change out of the window, then the decay (R65, R67). -/
theorem sampleRelay_flickerLevel :
    let x := sampleRelay e k raw t r
    (outsideWindow e (transition e raw t r) → x.flickerLevel = min 255 (r.flickerLevel + k.weight) - k.decay) ∧
      (¬outsideWindow e (transition e raw t r) → x.flickerLevel = r.flickerLevel - k.decay) := by
  have level : (transition e raw t r).runtime.flickerLevel = r.flickerLevel := (transition_case e raw t r).flash.flickerLevel
  have four : (stage4 e k (transition e raw t r)).flickerLevel = _ :=
    congrArg RelayRuntime.flickerLevel (stage4_eq e k (transition e raw t r))
  have after : (sampleRelay e k raw t r).flickerLevel = (stage4 e k (transition e raw t r)).flickerLevel - k.decay := by
    rw [← (stage5_keeps e (stage4 e k (transition e raw t r))).2.2]
    exact (stage8_keeps _ _).2.2.2.1.trans (stage7_keeps k _).2.2
  unfold outsideWindow
  dsimp only at four ⊢
  rw [after, four, level]
  cases (transition e raw t r).accepted <;> cases e.inWindow (transition e raw t r).runtime.runLength <;> simp

/-- The overlay and flash count after a sample are those that stage 7 makes of the level after the decay. -/
theorem sampleRelay_overlay :
    let x := sampleRelay e k raw t r
    let y := stage6 k (stage5 e (stage4 e k (transition e raw t r)))
    x.overlay = (stage7 k y).overlay ∧ x.flashCount = (stage7 k y).flashCount ∧ y.flickerLevel = x.flickerLevel := by
  intro x y
  obtain ⟨-, overlay, -, level, count⟩ := stage8_keeps ((transition e raw t r).since.getD t) (stage7 k y)
  exact ⟨overlay, count, (level.trans (stage7_keeps k y).2.2).symm⟩

/-- The overlay and the flash count that an accepted change finds: an unknown input alone has moved them (R51). -/
theorem transition_overlay :
    let x := (transition e raw t r).runtime
    x.overlay = (if raw = .unknown ∧ r.overlay = .flashing then .none else r.overlay) ∧
      x.flashCount = if raw = .unknown then 0 else r.flashCount :=
  ⟨(transition_case e raw t r).flash.overlay, (transition_case e raw t r).flash.flashCount⟩

/-- The status after a sample, and its time (R52, R53). -/
theorem sampleRelay_status :
    let x := sampleRelay e k raw t r
    x.status = deriveStatus x.contact x.overlay ∧
      x.statusTime = if x.status = r.status then r.statusTime else (transition e raw t r).since.getD t := by
  have flash := (transition_case e raw t r).flash
  obtain ⟨-, status, time⟩ := stages4to7_keeps e k (transition e raw t r)
  have status := status.trans flash.status
  have time := time.trans flash.statusTime
  have eight := stage8_eq ((transition e raw t r).since.getD t) (stages4to7 e k (transition e raw t r))
  rw [status, time] at eight
  rw [sampleRelay_eq, eight]
  exact ⟨rfl, rfl⟩

/-- An accepted change has known inputs. -/
theorem known_of_accepted (accepted : (transition e raw t r).accepted = true) : raw ≠ .unknown := by
  rintro rfl
  exact nomatch accepted

/-- An accepted change out of the flash window, as the obligations write it (R63). -/
theorem outsideWindow_iff (accepted : (transition e raw t r).accepted = true) :
    outsideWindow e (transition e raw t r) ↔
      ¬∃ w, e.flashWindow = some w ∧ w.fmin ≤ min 255 (r.runLength + 1) ∧ min 255 (r.runLength + 1) ≤ w.fmax := by
  rw [outsideWindow, transition_runLength e raw t r accepted, inWindow_iff]
  exact and_iff_right accepted

/-- The flash count that stages 4 and 5 leave (R64 to R66). -/
theorem flashCount_of_stages4and5 :
    let y := stage5 e (stage4 e k (transition e raw t r))
    let outside := outsideWindow e (transition e raw t r)
    let ends := raw = .unknown ∨ outside ∨ (r.overlay = .flashing ∧ endsFlashing e (transition e raw t r))
    (ends → y.flashCount = 0) ∧
      (¬ends → y.flashCount = if (transition e raw t r).accepted then min 7 (r.flashCount + 1) else r.flashCount) := by
  intro y outside ends
  obtain ⟨overlay, count⟩ := transition_overlay e raw t r
  obtain ⟨cleared, counted⟩ := stages4and5_flashCount e k (transition e raw t r)
  by_cases unknown : raw = .unknown
  · refine ⟨fun _ => ?_, fun stands => absurd (.inl unknown) stands⟩
    have plain : (transition e raw t r).accepted = false := by subst unknown; rfl
    rw [if_pos unknown] at count
    by_cases ended : outside ∨ ((transition e raw t r).runtime.overlay = .flashing ∧ endsFlashing e (transition e raw t r))
    · exact cleared ended
    · rw [counted ended, plain, count]; rfl
  · rw [if_neg unknown] at count
    rw [if_neg fun h => unknown h.1] at overlay
    rw [overlay] at cleared counted
    refine ⟨fun ended => cleared (ended.resolve_left unknown), fun stands => ?_⟩
    rw [counted fun ended => stands (.inr ended), count]

/-- NONE through stages 3 to 5: FLASHING where the change confirms it (R64). -/
theorem none_of_stages3to5 (none : r.overlay = .none) :
    let y := stage5 e (stage4 e k (transition e raw t r))
    (confirmsFlashing e (transition e raw t r) → y.overlay = .flashing) ∧
      (¬confirmsFlashing e (transition e raw t r) → y.overlay = .none) := by
  refine stages4and5_none e k _ ?_
  rw [(transition_overlay e raw t r).1, none, ite_self]

/-- FLASHING through stages 3 to 5: it ends at an unknown input, out of the window and past Fmax (R51, R65, R66). -/
theorem flashing_of_stages3to5 (flashing : r.overlay = .flashing) :
    let y := stage5 e (stage4 e k (transition e raw t r))
    let ends := raw = .unknown ∨ endsFlashing e (transition e raw t r)
    (ends → y.overlay = .none) ∧ (¬ends → y.overlay = .flashing) := by
  have overlay := (transition_overlay e raw t r).1
  rw [flashing] at overlay
  by_cases unknown : raw = .unknown
  · rw [if_pos ⟨unknown, rfl⟩] at overlay
    have plain : ¬confirmsFlashing e (transition e raw t r) := fun h => known_of_accepted e raw t r h.1 unknown
    exact ⟨fun _ => (stages4and5_none e k _ overlay).2 plain, fun stands => absurd (.inl unknown) stands⟩
  · rw [if_neg fun h => unknown h.1] at overlay
    obtain ⟨ends, stands⟩ := stages4and5_flashing e k _ overlay
    exact ⟨fun ended => ends (ended.resolve_left unknown), fun none => stands fun ended => none (.inr ended)⟩

/-- FLICKERING stands through stages 3 to 5, and none of them begins it. -/
theorem stages3to5_flickering :
    (stage5 e (stage4 e k (transition e raw t r))).overlay = .flickering ↔ r.overlay = .flickering := by
  have rest : (transition e raw t r).runtime.overlay ≠ .flickering →
      (stage5 e (stage4 e k (transition e raw t r))).overlay ≠ .flickering := fun other => by
    cases overlay : (transition e raw t r).runtime.overlay with
    | none =>
      obtain ⟨begins, none⟩ := stages4and5_none e k _ overlay
      by_cases confirmed : confirmsFlashing e (transition e raw t r)
      · simp [begins confirmed]
      · simp [none confirmed]
    | flashing =>
      obtain ⟨ends, stands⟩ := stages4and5_flashing e k _ overlay
      by_cases ended : endsFlashing e (transition e raw t r)
      · simp [ends ended]
      · simp [stands ended]
    | flickering => exact absurd overlay other
  have same : (transition e raw t r).runtime.overlay = .flickering ↔ r.overlay = .flickering := by
    rw [(transition_overlay e raw t r).1]
    split
    next flashing => simp [flashing.2]
    next => exact Iff.rfl
  exact ⟨fun h => same.1 (Decidable.of_not_not fun other => rest other h),
    fun h => stages4and5_flickering e k _ (same.2 h)⟩

/-- Stage 7 over what stages 3 to 5 leave, under a class with Lo below U (R60, R68, R69). -/
theorem sampleRelay_thresholds (hysteresis : k.lower < k.upper) :
    let x := sampleRelay e k raw t r
    let y := stage5 e (stage4 e k (transition e raw t r))
    let flickerEnds := r.overlay = .flickering ∧ x.flickerLevel ≤ k.lower
    (k.upper < x.flickerLevel → x.overlay = .flickering ∧ x.flashCount = y.flashCount) ∧
      (flickerEnds → x.overlay = .none ∧ x.flashCount = 0) ∧
      (¬k.upper < x.flickerLevel → ¬flickerEnds → x.overlay = y.overlay ∧ x.flashCount = y.flashCount) := by
  obtain ⟨overlay, count, level⟩ := sampleRelay_overlay e k raw t r
  have flickers := stages3to5_flickering e k raw t r
  refine ⟨fun above => ?_, fun ⟨was, low⟩ => ?_, fun within stands => ?_⟩ <;> rw [overlay, count] <;>
    rw [← level] at *
  · rw [stage7_above hysteresis _ above]; exact ⟨rfl, rfl⟩
  · rw [stage7_ends (stage6 k _) (flickers.2 was) low]; exact ⟨rfl, rfl⟩
  · rw [stage7_stands _ within fun was => Nat.lt_of_not_le fun low => stands ⟨flickers.1 was, low⟩]
    exact ⟨rfl, rfl⟩

end

/-- Settles O22: each count is followed through the stage that moves it. -/
theorem runLengthAndFlickerLevelOfASample : Obligations.RunLengthAndFlickerLevelOfASample := by
  refine ⟨fun e k raw t r => ?_, fun reason t r => ?_, fun t => ⟨rfl, rfl⟩⟩
  · intro x run inWindow
    obtain ⟨zero, raised⟩ := sampleRelay_runLength e k raw t r
    obtain ⟨weighed, spared⟩ := sampleRelay_flickerLevel e k raw t r
    have accepted := accepted_iff_between e k raw t r
    obtain ⟨cleared, counted⟩ := flashCount_of_stages4and5 e k raw t r
    have outside (a : acceptedBetween r.priorSteady r.contact x.contact) :
        outsideWindow e (transition e raw t r) ↔ ¬inWindow := outsideWindow_iff e raw t r (accepted.2 a)
    refine ⟨fun a => zero (.inl a), fun b => zero (.inr b), fun a b => raised (not_or.2 ⟨a, b⟩),
      fun a away => ⟨weighed ((outside a).2 away), ?_⟩,
      fun a inside => ⟨spared fun h => (outside a).1 h inside, fun hysteresis stands => ?_⟩,
      fun a => spared fun h => a (accepted.1 h.1)⟩
    · rw [(sampleRelay_overlay e k raw t r).2.1, stage7_eq]
      exact ite_eq_left_iff.2 fun _ => cleared (.inr (.inl ((outside a).2 away)))
    · have inside' : ¬outsideWindow e (transition e raw t r) := fun h => (outside a).1 h inside
      have short : ¬endsFlashing e (transition e raw t r) := by
        unfold endsFlashing runAfter
        rw [if_pos (accepted.2 a), pastFmax_zero]
        exact fun h => h.elim inside' nofun
      have rises := counted (by
        rintro (unknown | outside | ⟨-, ends⟩)
        exacts [known_of_accepted e raw t r (accepted.2 a) unknown, inside' outside, short ends])
      rw [if_pos (accepted.2 a)] at rises
      obtain ⟨above, -, within⟩ := sampleRelay_thresholds e k raw t r hysteresis
      by_cases high : k.upper < x.flickerLevel
      · exact (above high).2.trans rises
      · exact (within high stands).2.trans rises
  · rw [eventRelay, stage8_eq]; exact ⟨rfl, rfl⟩

/-- The flash count after a sample, under a class with Lo below U (R64 to R66, R69). -/
theorem sampleRelay_flashCount (e : RelayEntry) (k : ClassRecord) (raw : Raw) (t : Time) (r : RelayRuntime)
    (hysteresis : k.lower < k.upper) :
    let x := sampleRelay e k raw t r
    let flickerEnds := r.overlay = .flickering ∧ x.flickerLevel ≤ k.lower
    let cleared := raw = .unknown ∨ outsideWindow e (transition e raw t r) ∨
      (r.overlay = .flashing ∧ endsFlashing e (transition e raw t r)) ∨ flickerEnds
    (cleared → x.flashCount = 0) ∧
      (¬cleared →
        x.flashCount = if (transition e raw t r).accepted then min 7 (r.flashCount + 1) else r.flashCount) := by
  intro x flickerEnds cleared
  obtain ⟨above, ends, within⟩ := sampleRelay_thresholds e k raw t r hysteresis
  obtain ⟨none, counted⟩ := flashCount_of_stages4and5 e k raw t r
  have stands (still : ¬flickerEnds) : x.flashCount = (stage5 e (stage4 e k (transition e raw t r))).flashCount := by
    by_cases high : k.upper < x.flickerLevel
    · exact (above high).2
    · exact (within high still).2
  refine ⟨fun clear => ?_, fun still => ?_⟩
  · by_cases flicker : flickerEnds
    · exact (ends flicker).2
    · refine (stands flicker).trans (none ?_)
      rcases clear with h | h | h | h
      exacts [.inl h, .inr (.inl h), .inr (.inr h), absurd h flicker]
  · refine (stands fun h => still (.inr (.inr (.inr h)))).trans (counted ?_)
    rintro (h | h | h)
    exacts [still (.inl h), still (.inr (.inl h)), still (.inr (.inr (.inl h)))]

/-- An unknown input makes the relay UNPROVEN from any contact state (R51). -/
theorem sampleRelay_unknown (e : RelayEntry) (k : ClassRecord) (t : Time) (r : RelayRuntime) :
    let x := sampleRelay e k .unknown t r
    x.contact = .unproven .inputUnknown ∧ x.status = .unproven ∧ x.candidate = none ∧ x.candidateLength = 0 ∧
      x.transitLength = 0 ∧ x.flashCount = 0 ∧ x.overlay ≠ .flashing ∧ x.priorSteady = r.priorSteady ∧
      x.runLength = min 255 (r.runLength + 1) ∧ x.flickerLevel = r.flickerLevel - k.decay := by
  intro x
  have contacts := sampleRelay_contacts e k .unknown t r
  obtain ⟨overlay, count, -⟩ := sampleRelay_overlay e k .unknown t r
  have same : ¬(acceptedBetween r.priorSteady r.contact x.contact ∨ recoveryBetween r.contact x.contact) := by
    rw [contacts.contact]
    cases r.contact <;> exact fun h => h.elim id id
  have status : x.status = .unproven := by
    rw [(sampleRelay_status e k .unknown t r).1, contacts.contact]; rfl
  refine ⟨contacts.contact, status, contacts.candidate, contacts.candidateLength, contacts.transitLength, ?_, ?_,
    contacts.priorSteady, (sampleRelay_runLength e k .unknown t r).2 same,
    (sampleRelay_flickerLevel e k .unknown t r).2 fun h => nomatch h.1⟩
  · rw [count, stage7_eq]
    exact ite_eq_left_iff.2 fun _ => (flashCount_of_stages4and5 e k .unknown t r).1 (.inl rfl)
  · have five : (stage5 e (stage4 e k (transition e .unknown t r))).overlay ≠ .flashing := by
      cases was : r.overlay with
      | none => rw [(none_of_stages3to5 e k .unknown t r was).2 fun h => nomatch h.1]; nofun
      | flashing => rw [(flashing_of_stages3to5 e k .unknown t r was).1 (.inl rfl)]; nofun
      | flickering => rw [(stages3to5_flickering e k .unknown t r).2 was]; nofun
    rw [overlay, stage7_eq]
    dsimp only
    split
    · nofun
    split
    · nofun
    · exact five

/-- A change that confirms the flashing, in the words of the statement (R64). -/
theorem confirmsFlashing_iff (e : RelayEntry) (raw : Raw) (t : Time) (r : RelayRuntime) :
    confirmsFlashing e (transition e raw t r) ↔ (transition e raw t r).accepted = true ∧
      (∃ w, e.flashWindow = some w ∧ w.fmin ≤ min 255 (r.runLength + 1) ∧ min 255 (r.runLength + 1) ≤ w.fmax) ∧
      ∃ w, e.flashWindow = some w ∧ w.fconf ≤ min 7 (r.flashCount + 1) := by
  refine and_congr_right fun accepted => ?_
  rw [transition_runLength e raw t r accepted, inWindow_iff, confirmed_iff, (transition_overlay e raw t r).2,
    if_neg (known_of_accepted e raw t r accepted)]

/-- Settles O23: stages 3 to 5 give the overlay and the flash count, and stage 7 the thresholds over them. -/
theorem overlayAndFlashCountOfASample : Obligations.OverlayAndFlashCountOfASample := by
  refine ⟨fun e k raw t r => ?_, sampleRelay_unknown⟩
  intro x run accepted inWindow confirmed flashEnds flickerEnds cleared hysteresis
  obtain ⟨above, ends, within⟩ := sampleRelay_thresholds e k raw t r hysteresis
  obtain ⟨zero, counted⟩ := sampleRelay_flashCount e k raw t r hysteresis
  have isAccepted : (transition e raw t r).accepted = true ↔ accepted := accepted_iff_between e k raw t r
  have outside : outsideWindow e (transition e raw t r) ↔ accepted ∧ ¬inWindow :=
    ⟨fun h => ⟨isAccepted.1 h.1, (outsideWindow_iff e raw t r h.1).1 h⟩,
      fun h => (outsideWindow_iff e raw t r (isAccepted.2 h.1)).2 h.2⟩
  have past : endsFlashing e (transition e raw t r) ↔
      (accepted ∧ ¬inWindow) ∨ ∃ w, e.flashWindow = some w ∧ w.fmax < x.runLength := by
    rw [endsFlashing, outside, ← sampleRelay_run e k raw t r, pastFmax_iff]
  have confirms : confirmsFlashing e (transition e raw t r) ↔ confirmed :=
    (confirmsFlashing_iff e raw t r).trans (and_congr_left' isAccepted)
  have flashEnds_iff : raw = .unknown ∨ endsFlashing e (transition e raw t r) ↔ flashEnds := or_congr_right past
  have cleared_iff : raw = .unknown ∨ outsideWindow e (transition e raw t r) ∨
      (r.overlay = .flashing ∧ endsFlashing e (transition e raw t r)) ∨ flickerEnds ↔ cleared := by
    rw [outside]
    by_cases unknown : raw = .unknown
    · exact iff_of_true (.inl unknown) (.inl unknown)
    · have known := (or_iff_right unknown).symm.trans flashEnds_iff
      exact or_congr_right (or_congr_right (or_congr_left (and_congr_right' known)))
  refine ⟨fun high => (above high).1, fun flickers low => ?_, fun ended => (ends ended).1, fun none low => ?_,
    fun flashing low => ?_, fun clear => zero (cleared_iff.2 clear),
    fun stands a => (counted (mt cleared_iff.1 stands)).trans (if_pos (isAccepted.2 a)),
    fun stands a => (counted (mt cleared_iff.1 stands)).trans (if_neg (mt isAccepted.1 a))⟩
  · by_cases high : k.upper < x.flickerLevel
    · exact (above high).1
    · exact (within high fun ended => Nat.not_le.2 low ended.2).1.trans
        ((stages3to5_flickering e k raw t r).2 flickers)
  · have stays := (within (Nat.not_lt.2 low) fun ended => nomatch none.symm.trans ended.1).1
    obtain ⟨begins, stands⟩ := none_of_stages3to5 e k raw t r none
    exact ⟨fun c => stays.trans (begins (confirms.2 c)), fun c => stays.trans (stands (mt confirms.1 c))⟩
  · have stays := (within (Nat.not_lt.2 low) fun ended => nomatch flashing.symm.trans ended.1).1
    obtain ⟨stops, stands⟩ := flashing_of_stages3to5 e k raw t r flashing
    exact ⟨fun f => stays.trans (stops (flashEnds_iff.2 f)), fun f => stays.trans (stands (mt flashEnds_iff.1 f))⟩

/-! ### The status time and the raw decode (R43, R53) -/

/-- Does a contact state settle from one to another: an accepted change, a recovery or a contradiction by both contacts
closed (R53)? -/
def settlesBetween (prior : Option Direction) (before after : Contact) : Prop :=
  acceptedBetween prior before after ∨ recoveryBetween before after ∨
    ((∀ y, before ≠ .contradictory y) ∧ after = .contradictory .bothClosed)

/-- What settles has the candidate's time, and no other sample has one (R53). -/
theorem SampleCase.since {e : RelayEntry} {raw : Raw} {t : Time} {r : RelayRuntime} {tr : Transition}
    (h : SampleCase e raw t r tr) :
    (settlesBetween r.priorSteady r.contact tr.runtime.contact ∧ ∃ v : CandidateValue, raw = v.raw ∧
        tr.since = some (if r.candidate = some v then r.candidateTime else t)) ∨
      (¬settlesBetween r.priorSteady r.contact tr.runtime.contact ∧ tr.since = none) := by
  have quiet {c : Contact} (no : ¬acceptedBetween r.priorSteady r.contact c ∧ ¬recoveryBetween r.contact c ∧
      ¬((∀ y, r.contact ≠ .contradictory y) ∧ c = .contradictory .bothClosed)) :
      ¬settlesBetween r.priorSteady r.contact c := by rintro (a | b | d); exacts [no.1 a, no.2.1 b, no.2.2 d]
  have still := quiet (no_settle_refl r.priorSteady r.contact)
  cases h with
  | unknown _ => exact .inr ⟨quiet (by cases r.contact <;> exact ⟨id, id, nofun⟩), rfl⟩
  | opened _ => exact .inr ⟨quiet (no_settle_open r.priorSteady e r), rfl⟩
  | absorbed _ _ _ => exact .inr ⟨still, rfl⟩
  | counted v _ _ _ => exact .inr ⟨by rw [countCandidate_eq]; exact still, rfl⟩
  | contradicted is counts _ =>
    exact .inl ⟨.inr (.inr ⟨(counts_both _).1 counts, rfl⟩), .both, is, by rw [countCandidate_eq]⟩
  | changed d is change _ => exact .inl ⟨.inl change, d.candidate, is, by rw [countCandidate_eq]; rfl⟩
  | returned d _ transit prior _ =>
    refine .inr ⟨quiet ?_, rfl⟩
    rw [transit, prior]
    exact ⟨fun other => other rfl, id, nofun⟩
  | recovered d is recovery _ => exact .inl ⟨.inr (.inl recovery), d.candidate, is, by rw [countCandidate_eq]; rfl⟩

/-- Settles O24: stage 8 derives the status, and takes the time that stage 3 gives where something settles. -/
theorem statusAndStatusTimeOfASample : Obligations.StatusAndStatusTimeOfASample := by
  intro e k raw t r x settled sampled
  obtain ⟨status, time⟩ := sampleRelay_status e k raw t r
  have since := (transition_case e raw t r).since
  rw [← (sampleRelay_contacts e k raw t r).contact] at since
  refine ⟨status.trans ?_, fun same => time.trans (if_pos same), fun changed settles => ?_, fun changed none => ?_⟩
  · rfl
  · obtain ⟨-, v, is, since⟩ | ⟨none, -⟩ := since
    · have named : sampled = some v := by cases v <;> simp [sampled, is, CandidateValue.raw]
      rw [named]
      exact time.trans ((if_neg changed).trans (by rw [since]; rfl))
    · exact absurd settles none
  · obtain ⟨settles, -⟩ | ⟨-, since⟩ := since
    · exact absurd settles none
    · exact time.trans ((if_neg changed).trans (by rw [since]; rfl))

/-! ### The raw decode (R43) -/

theorem rawDecode_unknown {e : RelayEntry} {values known : Inputs} (h : ∃ b ∈ e.bits, known.getLsbD b.val = false) :
    rawDecode e values known = .unknown := by
  unfold rawDecode
  rw [if_pos]
  simpa using h

theorem rawDecode_known {e : RelayEntry} {values known : Inputs} (h : rawDecode e values known ≠ .unknown) :
    ∀ b ∈ e.bits, known.getLsbD b.val = true := fun b named => by
  by_contra unknown
  exact h (rawDecode_unknown ⟨b, named, by simpa using unknown⟩)

/-- A relay of one contact has no sample with its contacts open or both closed (R43). -/
theorem rawDecode_oneContact {e : RelayEntry} (one : ∀ f b l c, e ≠ .paired f b l c) (values known : Inputs) :
    rawDecode e values known ≠ .opened ∧ rawDecode e values known ≠ .both := by
  unfold rawDecode
  split
  · exact ⟨nofun, nofun⟩
  cases e with
  | none => exact ⟨nofun, nofun⟩
  | paired f b l c => exact absurd rfl (one f b l c)
  | frontOnly f _ => dsimp only; split <;> exact ⟨nofun, nofun⟩
  | backOnly b _ => dsimp only; split <;> exact ⟨nofun, nofun⟩

/-- With neither open nor both contacts closed a relay enters neither TRANSIT nor CONTRADICTORY. -/
theorem SampleCase.oneContact {e : RelayEntry} {raw : Raw} {t : Time} {r : RelayRuntime} {tr : Transition}
    (h : SampleCase e raw t r tr) (apart : raw ≠ .opened ∧ raw ≠ .both)
    (before : r.contact ≠ .transit ∧ ∀ x, r.contact ≠ .contradictory x) :
    tr.runtime.contact ≠ .transit ∧ ∀ x, tr.runtime.contact ≠ .contradictory x := by
  cases h with
  | unknown _ => exact ⟨nofun, nofun⟩
  | opened is => exact absurd is apart.1
  | absorbed _ _ _ => exact before
  | counted _ _ _ _ => rw [countCandidate_eq]; exact before
  | contradicted is _ _ => exact absurd is apart.2
  | changed _ _ _ _ => exact ⟨nofun, nofun⟩
  | returned _ _ transit _ _ => exact absurd transit before.1
  | recovered _ _ _ _ => exact ⟨nofun, nofun⟩

theorem sampleRelay_oneContact {e : RelayEntry} {k : ClassRecord} {raw : Raw} {t : Time} {r : RelayRuntime}
    (apart : raw ≠ .opened ∧ raw ≠ .both) (before : r.contact ≠ .transit ∧ ∀ x, r.contact ≠ .contradictory x) :
    (sampleRelay e k raw t r).contact ≠ .transit ∧ ∀ x, (sampleRelay e k raw t r).contact ≠ .contradictory x := by
  rw [(sampleRelay_contacts e k raw t r).contact]
  exact (transition_case e raw t r).oneContact apart before

/-- Settles O19: the table of R43, kind by kind. -/
theorem rawDecodeByKind : Obligations.RawDecodeByKind := by
  refine ⟨fun e values known => rawDecode_unknown, fun f b l c values known front back => ?_,
    fun f c values known front => ?_, fun b c values known back => ?_,
    fun e k values known t r one transit contradictory =>
      sampleRelay_oneContact (rawDecode_oneContact one values known) ⟨transit, contradictory⟩,
    fun e c common => ?_⟩
  · rw [rawDecode, if_neg (by simp [RelayEntry.bits, front, back])]
    cases values.getLsbD f.val <;> cases values.getLsbD b.val <;> rfl
  · rw [rawDecode, if_neg (by simp [RelayEntry.bits, front])]
  · rw [rawDecode, if_neg (by simp [RelayEntry.bits, back])]
  · simp [RelayEntry.settleCount, common]

end Sys2Proof.Proofs

namespace Sys2Proof.Proofs
open Sys2Proof Sys2Proof.Machine Sys2Proof.Laws

/-! ### Samples of UP, DOWN or BOTH that count, and those that do not (R45 to R49) -/

theorem raw_injective {v w : CandidateValue} (h : v.raw = w.raw) : v = w := by cases v <;> cases w <;> trivial

theorem raw_ne_opened (v : CandidateValue) : v.raw ≠ .opened := by cases v <;> exact nofun

theorem raw_ne_unknown (v : CandidateValue) : v.raw ≠ .unknown := by cases v <;> exact nofun

/-- The length that a candidate has after a sample of it that counts (R45). -/
def nextLength (v : CandidateValue) (r : RelayRuntime) : Nat :=
  if r.candidate = some v then min 255 (r.candidateLength + 1) else 1

/-- The prior steady state once a candidate has settled. -/
def CandidateValue.settledPrior (prior : Option Direction) : CandidateValue → Option Direction
  | .up => some .up
  | .down => some .down
  | .both => prior

section
variable {e : RelayEntry} {v : CandidateValue} {t : Time} {r : RelayRuntime} {tr : Transition}
  (h : SampleCase e v.raw t r tr)
include h

theorem SampleCase.of_idle (idle : ¬Counts v r.contact) : tr = .plain r.clearCandidate := by
  have counted {d : Direction} (is : v.raw = d.candidate.raw) : r.contact = .steady d := by
    rw [raw_injective is, counts_direction] at idle
    exact Decidable.of_not_not idle
  cases h with
  | unknown is => exact absurd is (raw_ne_unknown v)
  | opened is => exact absurd is (raw_ne_opened v)
  | absorbed _ _ _ => rfl
  | counted w is counts _ => exact absurd (raw_injective is ▸ counts) idle
  | contradicted is counts _ => exact absurd (raw_injective (w := .both) is ▸ counts) idle
  | changed d is change _ => rw [counted is] at change; exact absurd rfl change
  | returned d is transit _ _ => exact nomatch transit.symm.trans (counted is)
  | recovered d is recovery _ => rw [counted is] at recovery; exact recovery.elim

theorem SampleCase.of_below (counts : Counts v r.contact) (below : nextLength v r < e.settleCount v) :
    tr = .plain (r.countCandidate v t) := by
  have unsettled {w : CandidateValue} (is : v.raw = w.raw) :
      ¬e.settleCount w ≤ (r.countCandidate w t).candidateLength := by
    rw [← raw_injective is, countCandidate_eq]
    exact Nat.not_le.2 below
  cases h with
  | unknown is => exact absurd is (raw_ne_unknown v)
  | opened is => exact absurd is (raw_ne_opened v)
  | absorbed w is idle => exact absurd (raw_injective is ▸ counts) idle
  | counted w is _ _ => rw [raw_injective is]
  | contradicted is _ reached => exact absurd reached (unsettled is)
  | changed d is _ reached => exact absurd reached (unsettled is)
  | returned d is _ _ reached => exact absurd reached (unsettled is)
  | recovered d is _ reached => exact absurd reached (unsettled is)

theorem SampleCase.of_reached (counts : Counts v r.contact) (reached : e.settleCount v ≤ nextLength v r) :
    tr.runtime.contact = v.contact ∧ tr.runtime.candidate = none ∧ tr.runtime.candidateLength = 0 ∧
      tr.runtime.transitLength = 0 ∧ tr.runtime.priorSteady = CandidateValue.settledPrior r.priorSteady v := by
  have steady {d : Direction} (is : v.raw = d.candidate.raw) :
      Contact.steady d = v.contact ∧ some d = CandidateValue.settledPrior r.priorSteady v := by
    rw [raw_injective is]; cases d <;> exact ⟨rfl, rfl⟩
  cases h with
  | unknown is => exact absurd is (raw_ne_unknown v)
  | opened is => exact absurd is (raw_ne_opened v)
  | absorbed w is idle => exact absurd (raw_injective is ▸ counts) idle
  | counted w is _ below =>
    rw [← raw_injective is, countCandidate_eq] at below
    exact absurd below (Nat.not_lt.2 reached)
  | contradicted is _ _ =>
    rw [raw_injective (w := .both) is, countCandidate_eq]
    exact ⟨rfl, rfl, rfl, rfl, rfl⟩
  | changed d is _ _ => exact ⟨(steady is).1, rfl, rfl, rfl, (steady is).2⟩
  | returned d is _ _ _ => exact ⟨(steady is).1, rfl, rfl, rfl, (steady is).2⟩
  | recovered d is _ _ => exact ⟨(steady is).1, rfl, rfl, rfl, (steady is).2⟩

end

section
variable {e : RelayEntry} (k : ClassRecord) {v : CandidateValue} (t : Time) {r : RelayRuntime}

/-- A sample that does not settle leaves the run counting and the level decaying (R44, R67). -/
theorem sampleRelay_quiet {e : RelayEntry} {k : ClassRecord} {raw : Raw} {t : Time} {r : RelayRuntime}
    (same : (sampleRelay e k raw t r).contact = r.contact) :
    (sampleRelay e k raw t r).runLength = min 255 (r.runLength + 1) ∧
      (sampleRelay e k raw t r).flickerLevel = r.flickerLevel - k.decay := by
  obtain ⟨accepted, recovered, -⟩ := no_settle_refl r.priorSteady r.contact
  refine ⟨(sampleRelay_runLength e k raw t r).2 ?_, (sampleRelay_flickerLevel e k raw t r).2 fun outside => ?_⟩
  · rw [same]
    exact not_or.2 ⟨accepted, recovered⟩
  · have change := (accepted_iff_between e k raw t r).1 outside.1
    rw [same] at change
    exact accepted change

theorem sampleRelay_idle (idle : ¬Counts v r.contact) :
    ContactsAs (sampleRelay e k v.raw t r) r.clearCandidate := by
  have contacts := sampleRelay_contacts e k v.raw t r
  rw [(transition_case e v.raw t r).of_idle idle] at contacts
  exact ⟨contacts.1, contacts.2, contacts.3, contacts.4, contacts.5, contacts.6⟩

theorem sampleRelay_below (counts : Counts v r.contact) (below : nextLength v r < e.settleCount v) :
    ContactsAs (sampleRelay e k v.raw t r) { r with
      candidate := some v, candidateLength := nextLength v r
      candidateTime := if r.candidate = some v then r.candidateTime else t } := by
  have contacts := sampleRelay_contacts e k v.raw t r
  rw [(transition_case e v.raw t r).of_below counts below, countCandidate_eq] at contacts
  exact ⟨contacts.1, contacts.2, contacts.3, contacts.4, contacts.5, contacts.6⟩

theorem sampleRelay_reached (counts : Counts v r.contact) (reached : e.settleCount v ≤ nextLength v r) :
    let x := sampleRelay e k v.raw t r
    x.contact = v.contact ∧ x.candidate = none ∧ x.candidateLength = 0 ∧ x.transitLength = 0 ∧
      x.priorSteady = CandidateValue.settledPrior r.priorSteady v := by
  have contacts := sampleRelay_contacts e k v.raw t r
  intro x
  rw [contacts.contact, contacts.candidate, contacts.candidateLength, contacts.transitLength, contacts.priorSteady]
  exact (transition_case e v.raw t r).of_reached counts reached

end

/-! ### Samples of one value in a row (R45) -/

/-- A record `x` after `j` samples of the candidate `v` that have counted since `r` and not settled. -/
structure CountedTo (v : CandidateValue) (decay : Nat) (r : RelayRuntime) (j : Nat) (x : RelayRuntime) : Prop where
  contact : x.contact = r.contact
  priorSteady : x.priorSteady = r.priorSteady
  transitLength : x.transitLength = r.transitLength
  candidate : x.candidate = if j = 0 then none else some v
  candidateLength : x.candidateLength = j
  runLength : min 255 x.runLength = min 255 (r.runLength + j)
  flickerLevel : x.flickerLevel = r.flickerLevel - j * decay

theorem CountedTo.nextLength {v : CandidateValue} {decay : Nat} {r : RelayRuntime} {j : Nat} {x : RelayRuntime}
    (h : CountedTo v decay r j x) (small : j < 255) : nextLength v x = j + 1 := by
  unfold Proofs.nextLength
  rw [h.candidate, h.candidateLength]
  rcases Nat.eq_zero_or_pos j with rfl | some
  · rfl
  · rw [if_neg (Nat.ne_of_gt some), if_pos rfl]; omega

theorem samplesInARow_append (e : RelayEntry) (k : ClassRecord) (raw : Raw) (times : List Time) (t : Time)
    (r : RelayRuntime) :
    samplesInARow e k raw (times ++ [t]) r = sampleRelay e k raw t (samplesInARow e k raw times r) := by
  unfold samplesInARow
  rw [List.foldl_append]
  rfl

section
variable {e : RelayEntry} {k : ClassRecord} {v : CandidateValue} {r : RelayRuntime}

/-- Fewer samples than the settle count only count (R45). -/
theorem samplesInARow_below (counts : Counts v r.contact) (none : r.candidate = none) (zero : r.candidateLength = 0)
    (small : e.settleCount v ≤ 15) {times : List Time} (few : times.length < e.settleCount v) :
    CountedTo v k.decay r times.length (samplesInARow e k v.raw times r) := by
  induction times using List.reverseRecOn with
  | nil => exact ⟨rfl, rfl, rfl, none, zero, rfl, by simp [samplesInARow]⟩
  | append_singleton times t ih =>
    rw [List.length_append, List.length_singleton] at few ⊢
    have before := ih (by omega)
    have length := before.nextLength (by omega)
    rw [samplesInARow_append]
    have contacts := sampleRelay_below k t (before.contact ▸ counts) (length ▸ few)
    obtain ⟨run, level⟩ := sampleRelay_quiet contacts.contact
    have runs := before.runLength
    refine ⟨contacts.contact.trans before.contact, contacts.priorSteady.trans before.priorSteady,
      contacts.transitLength.trans before.transitLength, contacts.candidate, contacts.candidateLength.trans length, ?_, ?_⟩
    · rw [run]; omega
    · rw [level, before.flickerLevel, Nat.add_one_mul, Nat.sub_sub]

/-- Of as many samples as the settle count, the last settles (R45). -/
theorem samplesInARow_reached (counts : Counts v r.contact) (none : r.candidate = none) (zero : r.candidateLength = 0)
    (some : 1 ≤ e.settleCount v) (small : e.settleCount v ≤ 15) {times : List Time} (all : times.length = e.settleCount v) :
    ∃ x t, samplesInARow e k v.raw times r = sampleRelay e k v.raw t x ∧
      CountedTo v k.decay r (e.settleCount v - 1) x ∧ e.settleCount v ≤ nextLength v x := by
  rcases List.eq_nil_or_concat times with rfl | ⟨times, t, rfl⟩
  · rw [← all] at some; exact absurd some (by decide)
  · rw [List.concat_eq_append, List.length_append, List.length_singleton] at all
    have before : CountedTo v k.decay r times.length _ := samplesInARow_below counts none zero small (by omega)
    refine ⟨_, t, ?_, (show times.length = e.settleCount v - 1 by omega) ▸ before, ?_⟩
    · rw [List.concat_eq_append, samplesInARow_append]
    · rw [before.nextLength (by omega)]; omega

end

theorem contact_injective {v w : CandidateValue} (h : v.contact = w.contact) : v = w := by
  cases v <;> cases w <;> trivial

theorem contact_of_candidate (d : Direction) : d.candidate.contact = .steady d := by cases d <;> rfl

theorem settledPrior_of_candidate (d : Direction) (prior : Option Direction) :
    CandidateValue.settledPrior prior d.candidate = some d := by cases d <;> rfl

/-- A direction settles as an accepted change or a recovery from every contact state but TRANSIT and itself (R46, R49). -/
theorem settles_to_steady (prior : Option Direction) {c : Contact} {d : Direction} (other : c ≠ .steady d)
    (noTransit : c ≠ .transit) : acceptedBetween prior c (.steady d) ∨ recoveryBetween c (.steady d) := by
  cases c with
  | steady s => exact .inl fun same => other (same ▸ rfl)
  | transit => exact absurd rfl noTransit
  | contradictory _ => exact .inr trivial
  | unproven _ => exact .inr trivial

/-- A return from a transit is neither an accepted change nor a recovery, so the run goes on and no weight is added (R48). -/
theorem sampleRelay_return {e : RelayEntry} {k : ClassRecord} {raw : Raw} {t : Time} {r : RelayRuntime} {d : Direction}
    (transit : r.contact = .transit) (prior : r.priorSteady = some d)
    (after : (sampleRelay e k raw t r).contact = .steady d) :
    (sampleRelay e k raw t r).runLength = min 255 (r.runLength + 1) ∧
      (sampleRelay e k raw t r).flickerLevel = r.flickerLevel - k.decay := by
  have notAccepted : ¬acceptedBetween r.priorSteady r.contact (sampleRelay e k raw t r).contact := by
    rw [transit, prior, after]; exact fun other => other rfl
  refine ⟨(sampleRelay_runLength e k raw t r).2 (not_or.2 ⟨notAccepted, ?_⟩),
    (sampleRelay_flickerLevel e k raw t r).2 fun outside => notAccepted ((accepted_iff_between e k raw t r).1 outside.1)⟩
  rw [transit]
  exact id

section
variable {e : RelayEntry} {k : ClassRecord} {d : Direction} {r : RelayRuntime} {times : List Time}
  (some : 1 ≤ e.settleCount d.candidate) (small : e.settleCount d.candidate ≤ 15) (none : r.candidate = none)
  (zero : r.candidateLength = 0)
include some small none zero

/-- From the other direction, UNPROVEN or CONTRADICTORY the last sample of a direction settles with the run length 0. -/
theorem direction_settles (other : r.contact ≠ .steady d) (noTransit : r.contact ≠ .transit)
    (all : times.length = e.settleCount d.candidate) :
    let t := samplesInARow e k d.candidate.raw times r
    t.contact = .steady d ∧ t.priorSteady = Option.some d ∧ t.candidate = Option.none ∧ t.candidateLength = 0 ∧
      t.transitLength = 0 ∧ t.runLength = 0 := by
  have counts := (counts_direction d r.contact).2 other
  obtain ⟨x, time, last, before, reached⟩ := samplesInARow_reached (k := k) counts none zero some small all
  obtain ⟨contact, candidate, length, transit, prior⟩ := sampleRelay_reached k time (before.contact ▸ counts) reached
  rw [contact_of_candidate] at contact
  have run := (sampleRelay_runLength e k d.candidate.raw time x).1
    (by rw [contact]; exact settles_to_steady _ (before.contact ▸ other) (before.contact ▸ noTransit))
  intro t
  rw [show t = _ from last]
  exact ⟨contact, prior.trans (settledPrior_of_candidate d _), candidate, length, transit, run⟩

/-- Out of a transit it settles as an accepted change, or as a return to the prior steady state (R48). -/
theorem transit_settles (transit : r.contact = .transit) (all : times.length = e.settleCount d.candidate) :
    let t := samplesInARow e k d.candidate.raw times r
    t.contact = .steady d ∧ t.priorSteady = Option.some d ∧ t.candidate = Option.none ∧ t.candidateLength = 0 ∧
      t.transitLength = 0 ∧ (r.priorSteady ≠ Option.some d → t.runLength = 0) ∧
      (r.priorSteady = Option.some d → t.runLength = min 255 (r.runLength + e.settleCount d.candidate) ∧
        t.flickerLevel = r.flickerLevel - e.settleCount d.candidate * k.decay) := by
  have counts : Counts d.candidate r.contact := (counts_direction d r.contact).2 (by rw [transit]; nofun)
  obtain ⟨x, time, last, before, reached⟩ := samplesInARow_reached (k := k) counts none zero some small all
  obtain ⟨contact, candidate, length, ended, prior⟩ := sampleRelay_reached k time (before.contact ▸ counts) reached
  rw [contact_of_candidate] at contact
  have still := before.contact.trans transit
  intro t
  rw [show t = _ from last]
  refine ⟨contact, prior.trans (settledPrior_of_candidate d _), candidate, length, ended, fun other => ?_, fun same => ?_⟩
  · refine (sampleRelay_runLength e k d.candidate.raw time x).1 (.inl ?_)
    rw [still, contact, before.priorSteady]
    exact other
  · obtain ⟨run, level⟩ := sampleRelay_return still (before.priorSteady.trans same) contact
    have runs := before.runLength
    refine ⟨?_, ?_⟩
    · rw [run]; omega
    · rw [level, before.flickerLevel, Nat.sub_sub, ← Nat.add_one_mul, Nat.sub_add_cancel some]

end

/-- Samples with both contacts closed settle into CONTRADICTORY with reason BOTH_CLOSED (R46, R47, R49). -/
theorem both_settles {e : RelayEntry} {k : ClassRecord} {r : RelayRuntime} {times : List Time}
    (some : 1 ≤ e.settleCount .both) (small : e.settleCount .both ≤ 15) (none : r.candidate = none)
    (zero : r.candidateLength = 0) (counts : Counts .both r.contact) (all : times.length = e.settleCount .both) :
    let t := samplesInARow e k .both times r
    t.contact = .contradictory .bothClosed ∧ t.candidate = Option.none ∧ t.candidateLength = 0 ∧ t.transitLength = 0 ∧
      t.priorSteady = r.priorSteady := by
  obtain ⟨x, time, last, before, reached⟩ := samplesInARow_reached (v := .both) (k := k) counts none zero some small all
  obtain ⟨contact, candidate, length, ended, prior⟩ := sampleRelay_reached k time (before.contact ▸ counts) reached
  intro t
  rw [show t = _ from last]
  exact ⟨contact, candidate, length, ended, prior.trans before.priorSteady⟩

/-- In CONTRADICTORY they only clear the candidate (R49). -/
theorem both_idle {e : RelayEntry} {k : ClassRecord} {r : RelayRuntime} {times : List Time} {y : ContradictionReason}
    (contradictory : r.contact = .contradictory y) (more : times ≠ []) :
    let t := samplesInARow e k .both times r
    t.contact = .contradictory y ∧ t.candidate = none ∧ t.candidateLength = 0 := by
  have sample {x : RelayRuntime} (t : Time) (h : x.contact = .contradictory y) :
      ContactsAs (sampleRelay e k CandidateValue.both.raw t x) x.clearCandidate :=
    sampleRelay_idle k t fun counts => counts.2 y rfl h
  have stands (times : List Time) : (samplesInARow e k .both times r).contact = .contradictory y :=
    List.foldlRecOn (motive := fun x : RelayRuntime => x.contact = .contradictory y) times _ contradictory
      fun x h t _ => (sample t h).contact.trans h
  obtain ⟨before, t, rfl⟩ := (List.eq_nil_or_concat times).resolve_left more
  have last := sample t (stands before)
  rw [List.concat_eq_append, samplesInARow_append]
  exact ⟨last.contact.trans (stands before), last.candidate, last.candidateLength⟩

/-- Open contacts clear the candidate in every contact state (R45). -/
theorem openSample_candidate (e : RelayEntry) (r : RelayRuntime) :
    (openSample e r).candidate = none ∧ (openSample e r).candidateLength = 0 := by
  unfold openSample RelayRuntime.openCounted
  split
  · exact ⟨rfl, rfl⟩
  · split <;> exact ⟨rfl, rfl⟩
  · split <;> exact ⟨rfl, rfl⟩
  · exact ⟨rfl, rfl⟩

theorem sampleRelay_steady {e : RelayEntry} (k : ClassRecord) {d : Direction} (t : Time) {r : RelayRuntime}
    (steady : r.contact = .steady d) : ContactsAs (sampleRelay e k d.candidate.raw t r) r.clearCandidate :=
  sampleRelay_idle k t fun counts => (counts_direction d _).1 counts steady

/-- A bounce: samples that do not settle, ended by one of the steady state, leave the run length alone behind (R45). -/
theorem bounce_absorbed {e : RelayEntry} (k : ClassRecord) {d : Direction} {v : CandidateValue} {times : List Time} (t : Time)
    {r : RelayRuntime} (steady : r.contact = .steady d) (none : r.candidate = none) (zero : r.candidateLength = 0)
    (other : v ≠ d.candidate) (few : times.length < e.settleCount v) (small : e.settleCount v ≤ 15) :
    let x := sampleRelay e k d.candidate.raw t (samplesInARow e k v.raw times r)
    x.contact = .steady d ∧ x.candidate = Option.none ∧ x.candidateLength = 0 ∧ x.priorSteady = r.priorSteady ∧
      x.transitLength = r.transitLength ∧ x.runLength = min 255 (r.runLength + times.length + 1) := by
  have counts : Counts v r.contact := by
    rw [steady]
    exact ⟨fun same => other (contact_injective (same.symm.trans (contact_of_candidate d).symm)), fun _ _ => nofun⟩
  have before := samplesInARow_below (k := k) counts none zero small few
  have contacts := sampleRelay_steady (e := e) k t (before.contact.trans steady)
  obtain ⟨run, -⟩ := sampleRelay_quiet (contacts.contact.trans rfl)
  have runs := before.runLength
  refine ⟨contacts.contact.trans (before.contact.trans steady), contacts.candidate, contacts.candidateLength,
    contacts.priorSteady.trans before.priorSteady, contacts.transitLength.trans before.transitLength, ?_⟩
  rw [run]
  omega

/-- Settles O20: the samples before the last only count, and the last settles. -/
theorem settleCountMovesTheContactState : Obligations.SettleCountMovesTheContactState := by
  refine ⟨fun e k d r times => ?_, fun e k d r times => ?_, fun e k r times => ?_, fun e k v time r => ?_,
    fun e k d time r steady => ?_, fun e k time r => ?_,
    fun e k d v times time r steady none zero other few small => bounce_absorbed k time steady none zero other few small⟩
  · have settles (d : Direction) (some : 1 ≤ e.settleCount d.candidate) (small : e.settleCount d.candidate ≤ 15)
        (none : r.candidate = none) (zero : r.candidateLength = 0) (other : r.contact ≠ .steady d)
        (noTransit : r.contact ≠ .transit) := And.intro
      (fun few => (samplesInARow_below (k := k) ((counts_direction d _).2 other) none zero small (times := times) few).contact)
      (direction_settles (k := k) (times := times) some small none zero other noTransit)
    cases d with
    | up => exact settles .up
    | down => exact settles .down
  · have settles (d : Direction) (some : 1 ≤ e.settleCount d.candidate) (small : e.settleCount d.candidate ≤ 15)
        (none : r.candidate = none) (zero : r.candidateLength = 0) (transit : r.contact = .transit) := And.intro
      (fun few =>
        have before := samplesInARow_below (k := k) ((counts_direction d _).2 (by rw [transit]; nofun)) none zero small
          (times := times) few
        And.intro (before.contact.trans transit) (And.intro before.transitLength before.priorSteady))
      (transit_settles (k := k) (times := times) some small none zero transit)
    cases d with
    | up => exact settles .up
    | down => exact settles .down
  · intro n t some small
    refine ⟨fun proven none zero => ?_, fun y contradictory more => both_idle contradictory more⟩
    have counts := (counts_both r.contact).2 proven
    exact ⟨fun few => (samplesInARow_below (v := .both) counts none zero small few).contact,
      both_settles some small none zero counts⟩
  · intro x length other proven
    have counts : Counts v r.contact := ⟨other, fun y is => proven y is⟩
    refine ⟨fun below => ?_, fun reached => ?_⟩
    · have contacts := sampleRelay_below k time counts below
      exact ⟨contacts.candidate, contacts.candidateLength, contacts.candidateTime, contacts.contact, contacts.priorSteady,
        contacts.transitLength⟩
    · obtain ⟨contact, candidate, zero, ended, -⟩ := sampleRelay_reached k time counts reached
      exact ⟨candidate, zero, contact, ended⟩
  · have contacts := sampleRelay_steady (e := e) k time steady
    exact ⟨contacts.candidate, contacts.candidateLength, contacts.contact.trans steady, contacts.priorSteady⟩
  · have contacts := sampleRelay_contacts e k .opened time r
    obtain ⟨candidate, length⟩ := openSample_candidate e (stage1 r)
    exact ⟨contacts.candidate.trans candidate, contacts.candidateLength.trans length⟩

/-! ### Open contacts (R46, R47, R49) -/

/-- Open contacts from a steady state begin a transit (R46). -/
theorem sampleRelay_open_steady {e : RelayEntry} (k : ClassRecord) {d : Direction} (t : Time) {r : RelayRuntime}
    (steady : r.contact = .steady d) :
    let x := sampleRelay e k .opened t r
    x.contact = .transit ∧ x.transitLength = 1 ∧ x.priorSteady = some d ∧ x.candidate = none := by
  have contacts := sampleRelay_contacts e k .opened t r
  have opened : (transition e .opened t r).runtime = openSample e (stage1 r) := rfl
  have still : (stage1 r).contact = .steady d := steady
  rw [opened, openSample, still] at contacts
  exact ⟨contacts.contact, contacts.transitLength, contacts.priorSteady, contacts.candidate⟩

/-- A relay that counts its open samples: in TRANSIT, or UNPROVEN (R47, R49). -/
def CountsOpen (c : Contact) : Prop := c = .transit ∨ ∃ reason, c = .unproven reason

/-- Open contacts in TRANSIT or UNPROVEN are counted, and past the limit the relay is CONTRADICTORY (R47, R49). -/
theorem sampleRelay_open_counted {e : RelayEntry} (k : ClassRecord) (t : Time) {r : RelayRuntime}
    (counting : CountsOpen r.contact) :
    let x := sampleRelay e k .opened t r
    ((r.transitLength + 1 ≤ e.transitLimit → x.contact = r.contact ∧ x.transitLength = r.transitLength + 1) ∧
      (e.transitLimit < r.transitLength + 1 → x.contact = .contradictory .transitTimeout ∧ x.transitLength = 0)) ∧
      x.priorSteady = r.priorSteady ∧ x.candidate = none ∧ x.candidateLength = 0 := by
  have contacts := sampleRelay_contacts e k .opened t r
  have opened : (transition e .opened t r).runtime = (stage1 r).openCounted e := by
    show openSample e (stage1 r) = _
    unfold openSample
    have still : (stage1 r).contact = r.contact := rfl
    rcases counting with transit | ⟨reason, unproven⟩
    · rw [still, transit]
    · rw [still, unproven]
  have length : (stage1 r).transitLength = r.transitLength := rfl
  rw [opened, RelayRuntime.openCounted, length] at contacts
  intro x
  by_cases past : e.transitLimit < r.transitLength + 1
  · rw [if_pos past] at contacts
    exact ⟨⟨fun within => absurd past (Nat.not_lt.2 within), fun _ => ⟨contacts.contact, contacts.transitLength⟩⟩,
      contacts.priorSteady, contacts.candidate, contacts.candidateLength⟩
  · rw [if_neg past] at contacts
    exact ⟨⟨fun _ => ⟨contacts.contact, contacts.transitLength⟩, fun h => absurd h past⟩,
      contacts.priorSteady, contacts.candidate, contacts.candidateLength⟩

section
variable {e : RelayEntry} {k : ClassRecord} {r : RelayRuntime}

/-- Open samples up to the limit are only counted (R47, R49). -/
theorem openInARow_within (counting : CountsOpen r.contact) {times : List Time}
    (within : r.transitLength + times.length ≤ e.transitLimit) :
    let x := samplesInARow e k .opened times r
    x.contact = r.contact ∧ x.transitLength = r.transitLength + times.length ∧ x.priorSteady = r.priorSteady ∧
      (times ≠ [] → x.candidate = none ∧ x.candidateLength = 0) := by
  induction times using List.reverseRecOn with
  | nil => exact ⟨rfl, rfl, rfl, fun more => absurd rfl more⟩
  | append_singleton times t ih =>
    rw [List.length_append, List.length_singleton] at within ⊢
    obtain ⟨contact, length, prior, -⟩ := ih (by omega)
    rw [samplesInARow_append]
    obtain ⟨⟨stays, -⟩, prior', candidate⟩ := sampleRelay_open_counted (e := e) k t (contact ▸ counting)
    obtain ⟨contact', length'⟩ := stays (by rw [length]; omega)
    exact ⟨contact'.trans contact, by rw [length', length, Nat.add_assoc], prior'.trans prior, fun _ => candidate⟩

/-- The open sample beyond the limit makes the relay CONTRADICTORY (R47, R49). -/
theorem openInARow_past (counting : CountsOpen r.contact) {times : List Time} (more : times ≠ [])
    (past : r.transitLength + times.length = e.transitLimit + 1) :
    let x := samplesInARow e k .opened times r
    x.contact = .contradictory .transitTimeout ∧ x.transitLength = 0 ∧ x.priorSteady = r.priorSteady ∧
      x.candidate = none ∧ x.candidateLength = 0 := by
  obtain ⟨before, t, rfl⟩ := (List.eq_nil_or_concat times).resolve_left more
  rw [List.concat_eq_append, List.length_append, List.length_singleton] at past
  obtain ⟨contact, length, prior, -⟩ :=
    openInARow_within (e := e) (k := k) counting (times := before) (by omega)
  rw [List.concat_eq_append, samplesInARow_append]
  obtain ⟨⟨-, ends⟩, prior', candidate⟩ := sampleRelay_open_counted (e := e) k t (contact ▸ counting)
  obtain ⟨contact', length'⟩ := ends (by rw [length]; omega)
  exact ⟨contact', length', prior'.trans prior, candidate⟩

end

/-- Settles O21: a steady relay's first open sample begins the transit whose samples are counted. -/
theorem openContactsTimeOutAfterTheTransitLimit : Obligations.OpenContactsTimeOutAfterTheTransitLimit := by
  refine ⟨fun f b limit c k d r times => ?_, fun f b limit c k r times => ?_, fun e k v time r => ?_⟩
  · intro t some steady
    cases times with
    | nil => exact ⟨fun one => absurd one (by decide), fun all => nomatch all⟩
    | cons first times =>
      obtain ⟨contact, length, prior, candidate⟩ :=
        sampleRelay_open_steady (e := .paired f b limit c) k first steady
      have counting : CountsOpen (sampleRelay (.paired f b limit c) k .opened first r).contact := .inl contact
      have whole : t = samplesInARow (.paired f b limit c) k .opened times _ := rfl
      rw [whole, List.length_cons]
      refine ⟨fun _ within => ?_, fun past => ?_⟩
      · obtain ⟨contact', length', prior', candidate'⟩ := openInARow_within (e := .paired f b limit c) (k := k) counting
          (times := times) (by rw [length, Nat.add_comm]; exact within)
        refine ⟨contact'.trans contact, by rw [length', length, Nat.add_comm], prior'.trans prior, ?_⟩
        cases times with
        | nil => exact candidate
        | cons _ _ => exact (candidate' (List.cons_ne_nil _ _)).1
      · have more : times ≠ [] := by rintro rfl; simp at past; omega
        obtain ⟨contact', length', -, candidate', -⟩ := openInARow_past (e := .paired f b limit c) (k := k) counting more
          (by rw [length, Nat.add_comm]; exact past)
        exact ⟨contact', length', candidate'⟩
  · intro t counting more
    refine ⟨fun within => ?_, fun past => openInARow_past (e := .paired f b limit c) counting more past⟩
    obtain ⟨contact, length, prior, candidate⟩ := openInARow_within (e := .paired f b limit c) (k := k) counting within
    exact ⟨contact, length, prior, candidate more⟩
  · intro x counting below
    have counts : Counts v r.contact := by
      rcases counting with transit | ⟨reason, unproven⟩
      · rw [transit]; exact ⟨by cases v <;> exact nofun, fun _ _ => nofun⟩
      · rw [unproven]; exact ⟨by cases v <;> exact nofun, fun _ _ => nofun⟩
    have contacts := sampleRelay_below k time counts below
    exact ⟨contacts.contact, contacts.transitLength, contacts.priorSteady, contacts.candidate⟩

end Sys2Proof.Proofs

namespace Sys2Proof.Proofs
open Sys2Proof Sys2Proof.Machine Sys2Proof.Laws

/-! ### One relay's law over a reset, a card event and a sample (R41, R42, R47, R51, R52, R55, R64, R68) -/

/-- The reset values obey the law of every entry (R41). -/
theorem reset_relayLaw_of_entry (e : RelayEntry) (k : ClassRecord) (t : Time) : RelayLaw e k (.reset t) :=
  ⟨Nat.zero_le _, fun _ => rfl, Nat.zero_le _, Nat.zero_le _, Nat.zero_le _, Nat.zero_le _, rfl, nofun, nofun,
    fun above => absurd above (Nat.not_lt_zero _), nofun, nofun, fun _ => rfl, fun _ => ⟨nofun, nofun⟩⟩

/-- A relay after a card event, field by field (R55, R71). -/
theorem eventRelay_eq (reason : UnprovenReason) (t : Time) (r : RelayRuntime) :
    eventRelay reason t r =
      { contact := .unproven reason
        overlay := if r.overlay = .flashing then .none else r.overlay
        candidate := none, candidateLength := 0, candidateTime := r.candidateTime
        transitLength := 0, priorSteady := r.priorSteady, runLength := r.runLength
        flickerLevel := r.flickerLevel, flashCount := 0, status := .unproven
        statusTime := if r.status = .unproven then r.statusTime else t } := by
  have same : Status.unproven = r.status ↔ r.status = .unproven := eq_comm
  rw [eventRelay, stage8_eq, ← ite_congr (propext same) (fun _ => rfl) fun _ => rfl]
  rfl

/-- A card event keeps a relay's law: what it ends or clears stands at its reset value, and the rest stands. -/
theorem eventRelay_relayLaw {e : RelayEntry} {k : ClassRecord} {r : RelayRuntime} (reason : UnprovenReason) (t : Time)
    (some : e ≠ .none) (h : RelayLaw e k r) : RelayLaw e k (eventRelay reason t r) := by
  have flickers : (if r.overlay = .flashing then Overlay.none else r.overlay) = .flickering → r.overlay = .flickering := by
    split
    · exact nofun
    · exact id
  have notFlashing : (if r.overlay = .flashing then Overlay.none else r.overlay) ≠ .flashing := by
    split
    · exact nofun
    next other => exact other
  rw [eventRelay_eq]
  refine ⟨Nat.zero_le _, fun _ => rfl, Nat.zero_le _, h.runLength, h.flickerLevel, Nat.zero_le _, rfl, nofun, nofun,
    fun above => ?_, fun is => h.flickering (flickers is), fun is => absurd is notFlashing, fun none => absurd none some,
    fun _ => ⟨nofun, nofun⟩⟩
  rw [h.aboveUpper above]
  rfl

/-- The part of a relay's law that speaks of its contact fields. -/
structure ContactsLaw (e : RelayEntry) (r : RelayRuntime) : Prop where
  candidateLength : r.candidateLength ≤ 255
  noCandidate : r.candidate = none → r.candidateLength = 0
  transitLength : r.transitLength ≤ 63
  inTransit : r.contact = .transit → 1 ≤ r.transitLength ∧ r.transitLength ≤ e.transitLimit
  prior : ∀ d, r.contact = .steady d → r.priorSteady = some d

theorem openSample_contactsLaw {e : RelayEntry} {r : RelayRuntime} (limit : 1 ≤ e.transitLimit ∧ e.transitLimit ≤ 63)
    (h : ContactsLaw e r) : ContactsLaw e (openSample e r) := by
  have counted : ContactsLaw e (r.openCounted e) := by
    unfold RelayRuntime.openCounted
    split
    next => exact ⟨Nat.zero_le _, fun _ => rfl, Nat.zero_le _, nofun, nofun⟩
    next within =>
      have within : r.transitLength + 1 ≤ e.transitLimit := Nat.not_lt.1 within
      exact ⟨Nat.zero_le _, fun _ => rfl, within.trans limit.2, fun _ => ⟨Nat.le_add_left 1 _, within⟩, h.prior⟩
  unfold openSample
  split
  next d steady =>
    exact ⟨Nat.zero_le _, fun _ => rfl, (by decide : 1 ≤ 63), fun _ => ⟨Nat.le_refl 1, limit.1⟩, nofun⟩
  next => exact counted
  next => exact counted
  next => exact ⟨Nat.zero_le _, fun _ => rfl, h.transitLength, h.inTransit, h.prior⟩

theorem countCandidate_contactsLaw {e : RelayEntry} {r : RelayRuntime} (v : CandidateValue) (t : Time)
    (h : ContactsLaw e r) : ContactsLaw e (r.countCandidate v t) := by
  rw [countCandidate_eq]
  refine ⟨?_, nofun, h.transitLength, h.inTransit, h.prior⟩
  show (if _ then _ else _) ≤ 255
  split
  · exact Nat.min_le_left _ _
  · decide

theorem toSteady_contactsLaw (e : RelayEntry) (d : Direction) (r : RelayRuntime) : ContactsLaw e (r.toSteady d) :=
  ⟨Nat.zero_le _, fun _ => rfl, Nat.zero_le _, nofun, fun _ same => congrArg some (Contact.steady.inj same)⟩

/-- Every sample keeps the law of the contact fields. -/
theorem SampleCase.contactsLaw {e : RelayEntry} {raw : Raw} {t : Time} {r : RelayRuntime} {tr : Transition}
    (case : SampleCase e raw t r tr) (limit : raw = .opened → 1 ≤ e.transitLimit ∧ e.transitLimit ≤ 63)
    (h : ContactsLaw e r) : ContactsLaw e tr.runtime := by
  cases case with
  | unknown _ => exact ⟨Nat.zero_le _, fun _ => rfl, Nat.zero_le _, nofun, nofun⟩
  | opened is => exact openSample_contactsLaw (limit is) h
  | absorbed _ _ _ => exact ⟨Nat.zero_le _, fun _ => rfl, h.transitLength, h.inTransit, h.prior⟩
  | counted v _ _ _ => exact countCandidate_contactsLaw v t h
  | contradicted _ _ _ => exact ⟨Nat.zero_le _, fun _ => rfl, Nat.zero_le _, nofun, nofun⟩
  | changed d _ _ _ => exact toSteady_contactsLaw e d _
  | returned d _ _ _ _ => exact toSteady_contactsLaw e d _
  | recovered d _ _ _ =>
    have steady := toSteady_contactsLaw e d (r.countCandidate d.candidate t)
    exact ⟨steady.candidateLength, steady.noCandidate, steady.transitLength, steady.inTransit, steady.prior⟩

/-- A FLASHING overlay after a sample has its window, count, level and run (R64, R66, R68). -/
theorem sampleRelay_flashing {e : RelayEntry} {k : ClassRecord} (raw : Raw) (t : Time) {r : RelayRuntime}
    (hysteresis : k.lower < k.upper) (h : RelayLaw e k r) :
    let x := sampleRelay e k raw t r
    x.overlay = .flashing →
      ∃ w, e.flashWindow = some w ∧ w.fconf ≤ x.flashCount ∧ x.flickerLevel ≤ k.upper ∧ x.runLength ≤ w.fmax := by
  intro x flashes
  obtain ⟨above, ends, within⟩ := sampleRelay_thresholds e k raw t r hysteresis
  have run : x.runLength = _ := sampleRelay_run e k raw t r
  have high : ¬k.upper < x.flickerLevel := fun high => nomatch flashes.symm.trans (above high).1
  have noFlicker : ¬(r.overlay = .flickering ∧ x.flickerLevel ≤ k.lower) := fun f =>
    nomatch flashes.symm.trans (ends f).1
  have five := (within high noFlicker).1.symm.trans flashes
  have counted (known : raw ≠ .unknown) (inside : ¬outsideWindow e (transition e raw t r))
      (stands : ¬(r.overlay = .flashing ∧ endsFlashing e (transition e raw t r))) :
      x.flashCount = if (transition e raw t r).accepted then min 7 (r.flashCount + 1) else r.flashCount :=
    (sampleRelay_flashCount e k raw t r hysteresis).2
      (by rintro (h | h | h | h); exacts [known h, inside h, stands h, noFlicker h])
  cases was : r.overlay with
  | none =>
    have confirms := Classical.not_not.1 fun c => nomatch five.symm.trans ((none_of_stages3to5 e k raw t r was).2 c)
    obtain ⟨accepted, inside, w, window, enough⟩ := (confirmsFlashing_iff e raw t r).1 confirms
    have count := counted (known_of_accepted e raw t r accepted)
      (fun outside => (outsideWindow_iff e raw t r accepted).1 outside inside) fun f => nomatch was.symm.trans f.1
    rw [if_pos accepted] at count
    have zero : x.runLength = 0 := run.trans (if_pos accepted)
    exact ⟨w, window, count ▸ enough, Nat.not_lt.1 high, zero ▸ Nat.zero_le _⟩
  | flashing =>
    obtain ⟨w, window, enough, -, -⟩ := h.flashing was
    have bound := h.flashCount
    have stands : ¬(raw = .unknown ∨ endsFlashing e (transition e raw t r)) := fun c =>
      nomatch five.symm.trans ((flashing_of_stages3to5 e k raw t r was).1 c)
    have count := counted (fun c => stands (.inl c)) (fun c => stands (.inr (.inl c))) fun f => stands (.inr f.2)
    refine ⟨w, window, ?_, Nat.not_lt.1 high, Nat.not_lt.1 fun past => stands (.inr (.inr (pastFmax_iff.2 ⟨w, window, ?_⟩)))⟩
    · rw [count]; split <;> omega
    · rw [← run]; exact past
  | flickering => exact nomatch five.symm.trans ((stages3to5_flickering e k raw t r).2 was)

/-- A sample keeps a relay's law, under an entry in its ranges and a class with Lo below U. -/
theorem sampleRelay_relayLaw {e : RelayEntry} {k : ClassRecord} {values known : Inputs} (t : Time) {r : RelayRuntime}
    (some : e ≠ .none) (inRange : e.InRange) (hysteresis : k.lower < k.upper) (h : RelayLaw e k r) :
    RelayLaw e k (sampleRelay e k (rawDecode e values known) t r) := by
  have limit : rawDecode e values known = .opened → 1 ≤ e.transitLimit ∧ e.transitLimit ≤ 63 := fun opened => by
    cases e with
    | paired f b l c => exact ⟨inRange.1, inRange.2.1⟩
    | none => exact absurd rfl some
    | frontOnly f c => exact absurd opened (rawDecode_oneContact (e := .frontOnly f c) (fun _ _ _ _ => nofun) values known).1
    | backOnly b c => exact absurd opened (rawDecode_oneContact (e := .backOnly b c) (fun _ _ _ _ => nofun) values known).1
  generalize raw_eq : rawDecode e values known = raw at limit
  have one : (∀ f b l c, e ≠ .paired f b l c) → raw ≠ .opened ∧ raw ≠ .both := fun one =>
    raw_eq ▸ rawDecode_oneContact one values known
  have before : ContactsLaw e (stage1 r) := ⟨h.candidateLength, h.noCandidate, h.transitLength, h.inTransit, h.prior⟩
  have contacts := sampleRelay_contacts e k raw t r
  have after := (transition_case e raw t r).contactsLaw limit before
  obtain ⟨zero, raised⟩ := sampleRelay_runLength e k raw t r
  obtain ⟨weighed, spared⟩ := sampleRelay_flickerLevel e k raw t r
  obtain ⟨above, ends, within⟩ := sampleRelay_thresholds e k raw t r hysteresis
  obtain ⟨cleared, counted⟩ := sampleRelay_flashCount e k raw t r hysteresis
  have level := h.flickerLevel
  have count := h.flashCount
  generalize x_eq : sampleRelay e k raw t r = x at *
  refine ⟨contacts.candidateLength ▸ after.candidateLength, fun none => ?_, contacts.transitLength ▸ after.transitLength,
    ?_, ?_, ?_, x_eq ▸ (sampleRelay_status e k raw t r).1, fun transit => ?_, fun d steady => ?_,
    fun high => (above high).1, fun flickers => ?_, x_eq ▸ sampleRelay_flashing raw t hysteresis h,
    fun none => absurd none some, fun single => x_eq ▸ sampleRelay_oneContact (one single) (h.oneContact single)⟩
  · exact contacts.candidateLength.trans (after.noCandidate (contacts.candidate.symm.trans none))
  · by_cases settles : acceptedBetween r.priorSteady r.contact x.contact ∨ recoveryBetween r.contact x.contact
    · rw [zero settles]; exact Nat.zero_le _
    · rw [raised settles]; exact Nat.min_le_left _ _
  · by_cases outside : outsideWindow e (transition e raw t r)
    · rw [weighed outside]; omega
    · rw [spared outside]; omega
  · by_cases clear : raw = .unknown ∨ outsideWindow e (transition e raw t r) ∨
        (r.overlay = .flashing ∧ endsFlashing e (transition e raw t r)) ∨
          r.overlay = .flickering ∧ x.flickerLevel ≤ k.lower
    · rw [cleared clear]; exact Nat.zero_le _
    · rw [counted clear]; split <;> omega
  · rw [contacts.transitLength]
    exact after.inTransit (contacts.contact.symm.trans transit)
  · rw [contacts.priorSteady]
    exact after.prior d (contacts.contact.symm.trans steady)
  · by_contra low
    by_cases high : k.upper < x.flickerLevel
    · omega
    by_cases was : r.overlay = .flickering
    · exact nomatch flickers.symm.trans (ends ⟨was, Nat.not_lt.1 low⟩).1
    · have five := (within high fun f => was f.1).1.symm.trans flickers
      exact was ((stages3to5_flickering e k raw t r).1 five)

end Sys2Proof.Proofs

namespace Sys2Proof.Proofs
open Sys2Proof Sys2Proof.Machine Sys2Proof.Laws

/-! ### What the relays' laws read of the state, and what a command does to it -/

/-- What the laws of the relays read: the Active bank, the runtime records, the known flags, each card's state with its
proving error map, and the card events that wait. -/
structure RelaySide where
  bank : Bank
  relays : Vector RelayRuntime 768
  known : Vector Inputs 16
  service : CardIdx → CardState × Inputs
  events : List CardEvent

/-- A card's state and proving error map. -/
def serviceOf (c : CardContext) : CardState × Inputs := (c.state, c.errorMap)

def relaySide (s : State) : RelaySide :=
  { bank := s.tables.active, relays := s.relays, known := s.input.known, service := fun n => serviceOf s.cards[n]
    events := s.evaluator.events }

/-- The known flags of a card (R33). -/
def serviceFlags (c : CardState × Inputs) : Inputs := if c.1 = .inService then ~~~c.2 else 0

theorem knownFlags_eq (c : CardContext) : knownFlags c = serviceFlags (serviceOf c) := rfl

/-- The card events that a card's change sends (R33, R34). -/
def serviceEvents (n : CardIdx) (time : Time) (before after : CardState × Inputs) : List CardEvent :=
  if before.1 ≠ .inService then []
  else if after.1 ≠ .inService then [.cardOut n time]
  else if before.2 = after.2 then []
  else [.knownInputs n (after.2 &&& ~~~before.2) (before.2 &&& ~~~after.2) time]

theorem cardEvents_service (n : CardIdx) (time : Time) (b a : CardContext) :
    cardEvents n time b a = serviceEvents n time (serviceOf b) (serviceOf a) := rfl

/-- The relays that a card event acts on, under a bank (R55). -/
def eventSet (b : Bank) : CardEvent → List RelayIdx
  | .cardOut n _ => b.relaysOf n
  | .knownInputs n fallen _ _ => b.relaysNaming n fallen

/-- The reason that a card event gives (R55). -/
def eventReason : CardEvent → UnprovenReason
  | .cardOut _ _ => .cardOut
  | .knownInputs _ _ _ _ => .inputUnknown

def eventTime : CardEvent → Time
  | .cardOut _ t => t
  | .knownInputs _ _ _ t => t

/-- What one command can do to the relays' side of the state: nothing; a change of one card; a relay pass of a card in
service; a card event taken; a swap; or a reset of every relay. -/
inductive RelayStep (x y : RelaySide) : Prop
  | same (h : y = x)
  | card (n : CardIdx) (time : Time) (bank : y.bank = x.bank) (relays : y.relays = x.relays)
      (others : ∀ m, m ≠ n → y.service m = x.service m ∧ y.known[m] = x.known[m])
      (flags : y.known[n] = serviceFlags (y.service n))
      (events : y.events = x.events ++ serviceEvents n time (x.service n) (y.service n))
  | pass (n : CardIdx) (t : Time) (values : Inputs) (serving : (x.service n).1 = .inService)
      (rest : y = { x with relays := y.relays })
      (relays : ∀ r : RelayIdx, y.relays[r] =
        if r ∈ x.bank.relaysOf n then
          sampleRelay x.bank.relays[r] (x.bank.classOf x.bank.relays[r]) (rawDecode x.bank.relays[r] values x.known[n]) t
            x.relays[r]
        else x.relays[r])
  | event (e : CardEvent) (rest : List CardEvent) (waiting : x.events = e :: rest)
      (others : y = { x with relays := y.relays, events := rest })
      (relays : ∀ r : RelayIdx, y.relays[r] =
        if r ∈ eventSet x.bank e then eventRelay (eventReason e) (eventTime e) x.relays[r] else x.relays[r])
  | swap (t : Time) (events : y.events = x.events)
      (cards : ∀ n : CardIdx, x.bank.cards[n] = y.bank.cards[n] →
        y.service n = x.service n ∧ y.known[n] = serviceFlags (x.service n))
      (relays : ∀ r : RelayIdx, y.relays[r] = carriedRelay x.bank y.bank t x.relays r)
  | reset (relays : ∀ r : RelayIdx, ∃ t, y.relays[r] = .reset t)

/-- The parts that the relays' side reads. -/
def relayParts : List Part := [.tables, .relays, .input, .cards, .evaluator]

theorem relaySide_of_same {s t : State} (same : ∀ p ∈ relayParts, p.same s t) : relaySide t = relaySide s := by
  have tables : t.tables = s.tables := same .tables (by decide)
  have relays : t.relays = s.relays := same .relays (by decide)
  have input : t.input = s.input := same .input (by decide)
  have cards : t.cards = s.cards := same .cards (by decide)
  have evaluator : t.evaluator = s.evaluator := same .evaluator (by decide)
  unfold relaySide
  rw [tables, relays, input, cards, evaluator]

theorem relaySide_of_frame {s t : State} {ps : List Part} (h : s.changesOnly t ps)
    (away : ∀ p ∈ relayParts, p ∉ ps := by decide) : relaySide t = relaySide s :=
  relaySide_of_same fun p mem => h p (away p mem)

/-- What a command makes of the relays' side of a state reads the relays' parts alone. -/
theorem relayStep_reads (x : RelaySide) : ReadsOnly (fun t => RelayStep x (relaySide t)) relayParts := by
  intro u t same step
  show RelayStep x (relaySide t)
  rwa [relaySide_of_same same]

/-- Where no part but the evaluators may have changed, and they keep their events, the relays' side stands. -/
theorem relaySide_of_events {s t : State} {ps : List Part} (h : s.changesOnly t (.evaluator :: ps))
    (events : t.evaluator.events = s.evaluator.events)
    (away : ∀ p ∈ [Part.tables, .relays, .input, .cards], p ∉ Part.evaluator :: ps := by decide) :
    relaySide t = relaySide s := by
  have tables : t.tables = s.tables := h .tables (away _ (by decide))
  have relays : t.relays = s.relays := h .relays (away _ (by decide))
  have input : t.input = s.input := h .input (away _ (by decide))
  have cards : t.cards = s.cards := h .cards (away _ (by decide))
  unfold relaySide
  rw [tables, relays, input, cards, events]

theorem relaySide_foundAt (place : Nat) (s : State) : relaySide (foundAt place s) = relaySide s :=
  relaySide_of_events (ps := []) (foundAt_changesOnly place s) (foundAt_events place s).1

theorem relaySide_builtAt (place : Nat) (s : State) : relaySide (builtAt place s) = relaySide s :=
  relaySide_of_events (ps := [.choices]) (by intro p; cases p <;> simp [Part.same]) (builtAt_events place s).1

/-- A row of the desk's requests does to the relays' side what its owner's act does. -/
theorem serve_relayStep {mine : Request → Bool} {act : Request → State → State}
    (acts : ∀ q u, RelayStep (relaySide u) (relaySide (act q u))) (s : State) :
    RelayStep (relaySide s) (relaySide (serve mine act s)) := by
  unfold serve
  split
  next q _ =>
    have step := acts q (dropRequest s)
    rw [relaySide_of_frame (dropRequest_changesOnly s)] at step
    rwa [relaySide_of_frame (handOn_changesOnly _)]
  next => exact .same rfl

/-! ### Changes of a card (R33 to R35) -/

/-- A card's context written with its known flags, and the change announced, is a change of that card. -/
theorem announceCard_relayStep {s u : State} (n : CardIdx) (time : Time) (es : List ConditionIdx) (c : CardContext)
    (put : relaySide u = relaySide (putCard n c s)) :
    RelayStep (relaySide s) (relaySide (announceCard n time s.cards[n] es u)) := by
  have service (m : CardIdx) : serviceOf u.cards[m] = serviceOf (putCard n c s).cards[m] :=
    congrFun (congrArg RelaySide.service put) m
  have known : u.input.known = (putCard n c s).input.known := congrArg RelaySide.known put
  have frame := announceCard_changesOnly n time s.cards[n] es u
  have cards : (announceCard n time s.cards[n] es u).cards = u.cards := frame .cards (by decide)
  have input : (announceCard n time s.cards[n] es u).input = u.input := frame .input (by decide)
  have tables : (announceCard n time s.cards[n] es u).tables = u.tables := frame .tables (by decide)
  have relays : (announceCard n time s.cards[n] es u).relays = u.relays := frame .relays (by decide)
  have spec (m : CardIdx) := putCard_spec n m c s
  refine .card n time ?_ ?_ (fun m other => ⟨?_, ?_⟩) ?_ ?_
  · exact (congrArg TableStore.active tables).trans (congrArg RelaySide.bank put)
  · exact relays.trans (congrArg RelaySide.relays put)
  · show serviceOf (announceCard n time s.cards[n] es u).cards[m] = serviceOf s.cards[m]
    rw [cards, service, (spec m).1, if_neg other.symm]
  · show (announceCard n time s.cards[n] es u).input.known[m] = s.input.known[m]
    rw [input, known, (spec m).2.1, if_neg other.symm]
  · show (announceCard n time s.cards[n] es u).input.known[n] =
      serviceFlags (serviceOf (announceCard n time s.cards[n] es u).cards[n])
    rw [input, cards, known, service, (spec n).2.1, (spec n).1, if_pos rfl, if_pos rfl, knownFlags_eq]
  · show (announceCard n time s.cards[n] es u).evaluator.events = s.evaluator.events ++
      serviceEvents n time (serviceOf s.cards[n]) (serviceOf (announceCard n time s.cards[n] es u).cards[n])
    rw [cards, announceCard_evaluator, cardEvents_service]
    exact congrArg (· ++ _) (congrArg RelaySide.events put)

theorem changeCard_relayStep (n : CardIdx) (time : Time) (c : CardContext) (s : State) :
    RelayStep (relaySide s) (relaySide (changeCard n time c s)) :=
  announceCard_relayStep n time [] c rfl

theorem takeFrame_relayStep (n : CardIdx) (f : GoodFrame) (s : State) :
    RelayStep (relaySide s) (relaySide (takeFrame n f s)) := by
  unfold takeFrame
  dsimp only
  split
  · exact announceCard_relayStep n _ _ _ rfl
  split
  · exact announceCard_relayStep n _ _ _ rfl
  · exact announceCard_relayStep n _ _ _ rfl

/-! ### Relay passes, card events, swaps and resets (R40, R41, R55, R140) -/

section
variable {s t : State}

theorem relayStep_of_pass (n : CardIdx) (time : Time) (values : Inputs) (serving : s.cards[n].state = .inService)
    (active : t.tables.active = s.tables.active) (known : t.input.known = s.input.known) (cards : t.cards = s.cards)
    (events : t.evaluator.events = s.evaluator.events)
    (relays : ∀ r : RelayIdx, t.relays[r] =
      if r ∈ s.tables.active.relaysOf n then
        sampleRelay s.tables.active.relays[r] (s.tables.active.classOf s.tables.active.relays[r])
          (rawDecode s.tables.active.relays[r] values s.input.known[n]) time s.relays[r]
      else s.relays[r]) : RelayStep (relaySide s) (relaySide t) := by
  refine .pass n time values serving ?_ relays
  unfold relaySide
  rw [active, known, cards, events]

theorem relayStep_of_event (e : CardEvent) {rest : List CardEvent} (waiting : s.evaluator.events = e :: rest)
    (active : t.tables.active = s.tables.active) (known : t.input.known = s.input.known) (cards : t.cards = s.cards)
    (events : t.evaluator.events = rest)
    (relays : ∀ r : RelayIdx, t.relays[r] =
      if r ∈ eventSet s.tables.active e then eventRelay (eventReason e) (eventTime e) s.relays[r] else s.relays[r]) :
    RelayStep (relaySide s) (relaySide t) := by
  refine .event e rest waiting ?_ relays
  unfold relaySide
  rw [active, known, cards, events]

theorem relayStep_of_swap (time : Time) (events : t.evaluator.events = s.evaluator.events)
    (cards : ∀ n : CardIdx, s.tables.active.cards[n] = t.tables.active.cards[n] →
      t.cards[n] = s.cards[n] ∧ t.input.known[n] = knownFlags s.cards[n])
    (relays : ∀ r : RelayIdx, t.relays[r] = carriedRelay s.tables.active t.tables.active time s.relays r) :
    RelayStep (relaySide s) (relaySide t) :=
  .swap time events (fun n same => ⟨congrArg serviceOf (cards n same).1, (cards n same).2⟩) relays

theorem relayStep_of_reset (relays : ∀ r : RelayIdx, ∃ time, t.relays[r] = .reset time) :
    RelayStep (relaySide s) (relaySide t) := .reset relays

end

theorem relaySide_indicationPass (t : Time) (s : State) : relaySide (indicationPass t s) = relaySide s := by
  unfold relaySide
  rw [indicationPass_tables, indicationPass_relays, indicationPass_input, indicationPass_cards, indicationPass_evaluator]

/-- A relay pass that begins with a frame's values written (R14, R40). -/
theorem relayPass_relayStep (q : QueueEntry) {s : State} (serving : s.cards[q.card].state = .inService) :
    RelayStep (relaySide s) (relaySide (relayPass q.card q.arrival (beginPass (some q.card) (writeImage q s)))) := by
  have values : (beginPass (some q.card) (writeImage q s)).input.values[q.card] = q.samples := set_same ..
  have sampled := relayPass_get q.card q.arrival (beginPass (some q.card) (writeImage q s))
  have frame := relayPass_changesOnly q.card q.arrival (beginPass (some q.card) (writeImage q s))
  have events := (relayPass_events q.card q.arrival (beginPass (some q.card) (writeImage q s))).1
  have tables : _ = _ := frame .tables (by decide)
  have known : (relayPass q.card q.arrival (beginPass (some q.card) (writeImage q s))).input.known = s.input.known :=
    (congrArg InputImage.known (frame .input (by decide))).trans rfl
  have cards : _ = _ := frame .cards (by decide)
  unfold Proofs.sampled at sampled
  rw [values] at sampled
  generalize relayPass q.card q.arrival (beginPass (some q.card) (writeImage q s)) = t at *
  exact relayStep_of_pass q.card q.arrival q.samples serving (congrArg TableStore.active tables)
    known cards events sampled

/-- A frame discarded as stale leaves its card's state and map, and its known flags as they give them (R13, R33). -/
theorem countStale_relayStep (n : CardIdx) (s : State) : RelayStep (relaySide s) (relaySide (countStale n s)) := by
  have spec (m : CardIdx) := putCard_spec n m
    { s.cards[n] with counters := { s.cards[n].counters with stale := raise s.cards[n].counters.stale } } s
  have kept (m : CardIdx) : serviceOf (countStale n s).cards[m] = serviceOf s.cards[m] := by
    unfold countStale
    dsimp only
    rw [(spec m).1]
    split
    next same => subst same; rfl
    next => rfl
  refine .card n 0 rfl rfl (fun m other => ⟨kept m, (spec m).2.1.trans (if_neg other.symm)⟩) ?_ ?_
  · show (countStale n s).input.known[n] = serviceFlags (serviceOf (countStale n s).cards[n])
    rw [kept]
    exact (spec n).2.1.trans (if_pos rfl)
  · show s.evaluator.events = s.evaluator.events ++
      serviceEvents n 0 (serviceOf s.cards[n]) (serviceOf (countStale n s).cards[n])
    rw [kept]
    unfold serviceEvents
    by_cases serves : (serviceOf s.cards[n]).1 = .inService <;> simp

theorem convert_relayStep (q : QueueEntry) (s : State) : RelayStep (relaySide s) (relaySide (convert q s)) := by
  unfold convert
  split
  next serving =>
    rw [relaySide_indicationPass]
    exact relayPass_relayStep q serving
  next => exact .same rfl
  next => exact .same rfl
  next => exact countStale_relayStep q.card s

/-- The relays of a card event's set are distinct. -/
theorem eventSet_nodup (b : Bank) (e : CardEvent) : (eventSet b e).Nodup := by
  cases e with
  | cardOut n t => exact relaysOf_nodup b n
  | knownInputs n fallen risen t => exact List.Nodup.filter _ (relaysOf_nodup b n)

/-- A card event reads each relay of its set as the event finds it. -/
theorem foldl_eventRelay_eq (reason : UnprovenReason) (t : Time) (s : State) {rs : List RelayIdx} (distinct : rs.Nodup)
    {u : State} (relays : ∀ r ∈ rs, u.relays[r] = s.relays[r]) :
    rs.foldl (fun x r => storeRelay r (eventRelay reason t x.relays[r]) x) u =
      rs.foldl (fun x r => storeRelay r (eventRelay reason t s.relays[r]) x) u := by
  induction rs generalizing u with
  | nil => rfl
  | cons r rs ih =>
    obtain ⟨new, rest⟩ := List.nodup_cons.1 distinct
    rw [List.foldl_cons, List.foldl_cons, relays r List.mem_cons_self]
    refine ih rest fun x hx => ?_
    have other : x ≠ r := fun e => new (e ▸ hx)
    rw [storeRelay_relays, set_other _ _ other]
    exact relays x (List.mem_cons_of_mem r hx)

theorem applyEvent_eq (reason : UnprovenReason) (t : Time) {rs : List RelayIdx} (distinct : rs.Nodup) (s : State) :
    applyEvent reason t rs s = indicationPass t
      (rs.foldl (fun x r => storeRelay r (eventRelay reason t s.relays[r]) x) (beginPass none s)) :=
  congrArg (indicationPass t) (foldl_eventRelay_eq reason t s distinct fun _ _ => rfl)

/-- After a card event each relay of its set is UNPROVEN, and no other has changed (R55). -/
theorem applyEvent_get (reason : UnprovenReason) (t : Time) {rs : List RelayIdx} (distinct : rs.Nodup) (s : State)
    (r : RelayIdx) :
    (applyEvent reason t rs s).relays[r] = if r ∈ rs then eventRelay reason t s.relays[r] else s.relays[r] := by
  rw [applyEvent_eq reason t distinct, indicationPass_relays, foldl_storeRelay_get]
  rfl

/-- The evaluators after a card event: the events and the flag stand, the changed set is empty, and the pass that the event
began may be in flight (R52, R56, log 9). -/
theorem applyEvent_evaluator (reason : UnprovenReason) (t : Time) {rs : List RelayIdx} (distinct : rs.Nodup) (s : State) :
    (applyEvent reason t rs s).evaluator = { (beginPass none s).evaluator with changed := [] } := by
  rw [applyEvent_eq reason t distinct, indicationPass_evaluator]
  obtain ⟨changed, e⟩ := foldl_storeRelay_evaluator (fun r => eventRelay reason t s.relays[r]) rs (beginPass none s)
  rw [e]

theorem applyEvent_relayStep {s : State} (e : CardEvent) {rest : List CardEvent} (waiting : s.evaluator.events = e :: rest) :
    RelayStep (relaySide s)
      (relaySide (applyEvent (eventReason e) (eventTime e) (eventSet s.tables.active e) (popEvent s))) := by
  have distinct := eventSet_nodup s.tables.active e
  have relays := applyEvent_get (eventReason e) (eventTime e) distinct (popEvent s)
  have events := congrArg Evaluator.events (applyEvent_evaluator (eventReason e) (eventTime e) distinct (popEvent s))
  have frame := applyEvent_changesOnly (eventReason e) (eventTime e) (eventSet s.tables.active e) (popEvent s)
  have tables : _ = _ := frame .tables (by decide)
  have input : _ = _ := frame .input (by decide)
  have cards : _ = _ := frame .cards (by decide)
  generalize applyEvent (eventReason e) (eventTime e) (eventSet s.tables.active e) (popEvent s) = t at *
  exact relayStep_of_event e waiting (congrArg TableStore.active tables) (congrArg InputImage.known input) cards
    (events.trans (congrArg List.tail waiting)) relays

/-- After the relay carry-over each relay stands as R140 says. -/
theorem swap_relay (t : Time) (s : State) (r : RelayIdx) :
    (swap t s).relays[r] = carriedRelay s.tables.active s.tables.staging t s.relays r := by
  have cards := carryCards_changesOnly s.tables.active t (swapBanks s)
  have relays : (carryCards s.tables.active t (swapBanks s)).relays = s.relays := cards .relays (by decide)
  have tables : (carryCards s.tables.active t (swapBanks s)).tables.active = s.tables.staging :=
    congrArg TableStore.active (show _ = (swapBanks s).tables from cards .tables (by decide))
  have later : (carryRelays s.tables.active t (carryCards s.tables.active t (swapBanks s))).changesOnly (swap t s)
      ([.indications, .engine, .tables, .link] ++ announceParts) :=
    changesOnly_then (changesOnly_mono _ (carryIndications_changesOnly s.tables.active t _)) (finishSwap_changesOnly _)
  rw [show (swap t s).relays = _ from later .relays (by decide)]
  unfold carryRelays
  dsimp only
  rw [makeKnown_relays, setRelays_relays, relays, tables]
  exact Vector.getElem_ofFn r.isLt

theorem swap_relayStep (t : Time) (s : State) : RelayStep (relaySide s) (relaySide (swap t s)) := by
  have active : (swap t s).tables.active = s.tables.staging := congrArg TableStore.active (swap_tables t s).1
  have evaluator : (swap t s).evaluator = s.evaluator := swap_changesOnly t s .evaluator (by decide)
  have relays := swap_relay t s
  have cards (n : CardIdx) := swap_card t s n
  dsimp only at cards
  rw [← active] at relays cards
  generalize swap t s = u at *
  refine relayStep_of_swap t (congrArg Evaluator.events evaluator) (fun n same => ?_) relays
  have kept : carriedCard s.tables.active.cards[n] u.tables.active.cards[n] s.lanes[n].carrier s.cards[n] = s.cards[n] :=
    if_pos same
  have carried := cards n
  rwa [kept] at carried

theorem restartAll_relayStep (s : State) : RelayStep (relaySide s) (relaySide (restartAll s)) := by
  have relays : (restartAll s).relays = (restartBlocks s).relays := restartAll_same s .relays (by decide)
  have reset := restartBlocks_relay s
  rw [← relays] at reset
  generalize restartAll s = u at *
  exact relayStep_of_reset fun r => ⟨_, reset r⟩

end Sys2Proof.Proofs

namespace Sys2Proof.Proofs
open Sys2Proof Sys2Proof.Machine Sys2Proof.Laws

/-! ### Every command is one relay step -/

/-- A frame or an answer built leaves the relays' side: it moves the pass in flight alone. -/
theorem relaySide_sendTrainFrame {w : TrainWork} {place : ResponseEntry → State → State} {s : State}
    (placed : ∀ (e : ResponseEntry) (s : State), s.changesOnly (place e s) [.link]) :
    relaySide (sendTrainFrame w place s) = relaySide s := by
  have built : relaySide (atBuild s) = relaySide s := relaySide_builtAt _ s
  exact (relaySide_of_frame (setReader_changesOnly _ _)).trans ((relaySide_of_frame (placed _ _)).trans built)

theorem relaySide_grantOwn (turn : OwnTurn) (s : State) : relaySide (grantOwn turn s) = relaySide s := by
  have built : relaySide (turn.atBuild s) = relaySide s := by
    cases turn with
    | report =>
      show relaySide (atRemoval _ s) = relaySide s
      unfold atRemoval
      split
      · exact relaySide_foundAt _ s
      · rfl
    | urgentImage b => exact relaySide_builtAt _ s
    | regularImage => exact relaySide_builtAt _ s
  have took (u : State) : relaySide (takeOwnTurn turn u) = relaySide u := by
    cases turn with
    | report => exact relaySide_of_frame (removeReport_changesOnly u)
    | urgentImage b => rfl
    | regularImage => rfl
  exact (took _).trans built

theorem relaySide_chooseUpstream (s : State) : relaySide (chooseUpstream s) = relaySide s := by
  unfold chooseUpstream chooseBelow
  split
  · rfl
  split
  · rfl
  · exact relaySide_grantOwn _ s
  · rfl
  split
  · exact relaySide_grantOwn _ s
  · rfl

/-- A command of the tables leaves the Active bank, and with it the relays' side. -/
theorem relaySide_of_active {c : Instr} {s t : State} (h : exec c s = .next t) (still : movesActive c = false)
    (away : ∀ p ∈ [Part.relays, .input, .cards, .evaluator], p ∉ writes c) : relaySide t = relaySide s := by
  have frame := exec_changesOnly c s t h
  have active := exec_active c s t h still
  have relays : t.relays = s.relays := frame .relays (away _ (by decide))
  have input : t.input = s.input := frame .input (away _ (by decide))
  have cards : t.cards = s.cards := frame .cards (away _ (by decide))
  have evaluator : t.evaluator = s.evaluator := frame .evaluator (away _ (by decide))
  unfold relaySide
  rw [active, relays, input, cards, evaluator]

/-- TIME SET moves the cards' times, and leaves their states and proving error maps (R164). -/
theorem relaySide_loadTime (value : Time) (s : State) : relaySide (loadTime value s) = relaySide s := by
  have service : (fun n : CardIdx => serviceOf (loadTime value s).cards[n]) = fun n => serviceOf s.cards[n] :=
    funext fun n => (congrArg serviceOf (loadTime_cards value s n).1).trans rfl
  have input := (loadTime_cards value s 0).2.2
  have tables : (loadTime value s).tables = s.tables := by simp [loadTime]
  have relays : (loadTime value s).relays = s.relays := by simp [loadTime]
  have evaluator : (loadTime value s).evaluator = s.evaluator := by simp [loadTime]
  unfold relaySide
  rw [service, input, tables, relays, evaluator]

theorem relaySide_answer (q : Request) (st : AnswerStatus) (b : List Byte) (s : State) :
    relaySide (answer q st b s) = relaySide s := relaySide_of_frame (answer_changesOnly q st b s)

theorem relaySide_actSnapshot (q : Request) (s : State) : relaySide (actSnapshot q s) = relaySide s := by
  unfold actSnapshot beginTrain
  dsimp only
  split
  · exact relaySide_answer ..
  split
  · exact relaySide_answer ..
  split
  · exact relaySide_answer ..
  split
  · exact relaySide_answer ..
  split
  · exact relaySide_sendTrainFrame (answerEntry_changesOnly q)
  · rfl

theorem relaySide_actStatusRead (q : Request) (s : State) : relaySide (actStatusRead q s) = relaySide s := by
  have built : relaySide (atStatus s) = relaySide s := by
    unfold atStatus
    split
    · exact relaySide_builtAt _ s
    · rfl
  exact (relaySide_answer ..).trans built

theorem relaySide_actConditionEnable (q : Request) (s : State) :
    relaySide (actConditionEnable q s) = relaySide s := by
  unfold actConditionEnable
  dsimp only
  split
  · exact relaySide_answer ..
  · exact (relaySide_answer ..).trans
      ((relaySide_of_frame (replaceEnables_changesOnly _ _)).trans (relaySide_foundAt passEnd s))

theorem relaySide_actConditionAck (q : Request) (s : State) : relaySide (actConditionAck q s) = relaySide s := by
  unfold actConditionAck
  dsimp only
  split
  · exact relaySide_answer ..
  · exact (relaySide_answer ..).trans
      ((relaySide_of_frame (acknowledge_changesOnly _ _)).trans (relaySide_foundAt passEnd s))

/-- A row of requests whose act leaves the relays' side leaves it. -/
theorem serve_relaySide {mine : Request → Bool} {act : Request → State → State}
    (acts : ∀ q u, relaySide (act q u) = relaySide u) (s : State) :
    RelayStep (relaySide s) (relaySide (serve mine act s)) :=
  serve_relayStep (fun q u => .same (acts q u)) s

/-- A request about a card changes that card, or is turned away. -/
theorem serve_cardControl_relayStep {mine : Request → Bool} (after : CardIdx → State → CardContext) (s : State) :
    RelayStep (relaySide s)
      (relaySide (serve mine (actCardControl fun n u => changeCard n u.time.counter (after n u) u) s)) := by
  refine serve_relayStep (fun q u => ?_) s
  unfold actCardControl
  split
  · rw [relaySide_answer]
    exact changeCard_relayStep _ _ _ u
  · exact .same (relaySide_answer ..)

/-- What one command does to the relays' side. -/
theorem exec_relayStep (c : Instr) (s t : State) (h : exec c s = .next t) : RelayStep (relaySide s) (relaySide t) := by
  by_cases written : ∃ p ∈ relayParts, p ∈ writes c
  case neg => exact .same (relaySide_of_frame (exec_changesOnly c s t h) fun p read wrote => written ⟨p, read, wrote⟩)
  have stays : RelayStep (relaySide s) (relaySide s) := .same rfl
  cases c with
  | powerOn straps =>
    cases h
    exact relayStep_of_reset fun r => ⟨0, by
      show (State.powerOn straps).relays[r] = _
      exact Vector.getElem_replicate r.isLt⟩
  | supervisorFrameTaken n =>
    injection h with h; subst h
    split
    · exact stays
    split
    · exact takeFrame_relayStep n _ (popInbox n s)
    · exact stays
  | closeExpiry n =>
    injection h with h; subst h
    split
    · split
      · exact changeCard_relayStep n _ _ s
      · exact stays
    · exact stays
  | cardCarrierFall n =>
    injection h with h; subst h
    split
    · exact stays
    split
    · exact changeCard_relayStep n _ _ (popInbox n s)
    · exact stays
  | cardCarrierRise n =>
    injection h with h; subst h
    split
    · exact stays
    split
    · exact changeCard_relayStep n _ _ (popInbox n s)
    · exact stays
  | conversionStart =>
    injection h with h; subst h
    split
    · split
      next q rest _ =>
        exact convert_relayStep q (endPass ((s.setFrameQueue rest).setEngine
          { s.engine with state := .converting q (s.runsPass q) }))
      next => exact stays
    · exact stays
  | conversionComplete =>
    injection h with h; subst h
    split
    · split
      · exact .same rfl
      · exact stays
    · exact .same rfl
    · exact stays
    · exact stays
  | cardOutEvent =>
    injection h with h; subst h
    split
    · exact stays
    split
    next n time waiting =>
      obtain ⟨rest, events⟩ := List.head?_eq_some_iff.1 waiting
      exact applyEvent_relayStep (.cardOut n time) events
    next => exact stays
  | knownInputsEvent =>
    injection h with h; subst h
    split
    · exact stays
    split
    next n fallen risen time waiting =>
      obtain ⟨rest, events⟩ := List.head?_eq_some_iff.1 waiting
      exact applyEvent_relayStep (.knownInputs n fallen risen time) events
    next => exact stays
  | commitSwapBegin =>
    injection h with h; subst h
    split
    · exact .same rfl
    · exact stays
  | commitSwapComplete =>
    injection h with h; subst h
    split
    next time _ =>
      rw [relaySide_of_frame (handOn_changesOnly _)]
      exact swap_relayStep time s
    next => exact stays
  | upstreamTxDone =>
    injection h with h; subst h
    exact .same (relaySide_chooseUpstream _)
  | trainFrameBuild =>
    injection h with h; subst h
    split
    · split
      · exact .same (relaySide_sendTrainFrame placeEntry_changesOnly)
      · exact stays
    · exact stays
  | restart =>
    cases h
    exact serve_relayStep (fun q u => actRestart_keeps (relayStep_reads _) (restartAll_relayStep u)) s
  | readmit => cases h; exact serve_cardControl_relayStep _ s
  | clearProving => cases h; exact serve_cardControl_relayStep (fun n u => u.cards[n].clearProving) s
  | clearCounters => cases h; exact serve_cardControl_relayStep (fun n u => u.cards[n].clearCounters) s
  | snapshot => cases h; exact serve_relaySide relaySide_actSnapshot s
  | timeSet =>
    cases h
    exact serve_relaySide (fun q u => (relaySide_answer ..).trans (relaySide_loadTime _ u)) s
  | statusRead => cases h; exact serve_relaySide relaySide_actStatusRead s
  | conditionEnable => cases h; exact serve_relaySide relaySide_actConditionEnable s
  | conditionAck => cases h; exact serve_relaySide relaySide_actConditionAck s
  | checkPass => exact .same (relaySide_of_active h rfl (by decide))
  | checkRefused => exact .same (relaySide_of_active h rfl (by decide))
  | abort => exact .same (relaySide_of_active h rfl (by decide))
  | tableWrite => exact .same (relaySide_of_active h rfl (by decide))
  | copyActiveToStaging => exact .same (relaySide_of_active h rfl (by decide))
  | commit => exact .same (relaySide_of_active h rfl (by decide))
  | _ => simp [writes, announceParts, relayParts] at written

end Sys2Proof.Proofs

namespace Sys2Proof.Proofs
open Sys2Proof Sys2Proof.Machine Sys2Proof.Laws

/-! ### The laws of the relays over one relay step -/

theorem step_relayStep {s t : State} (h : step s = .next t) : RelayStep (relaySide s) (relaySide t) := by
  unfold step at h
  split at h
  next c rest _ => exact exec_relayStep c (s.setPending rest) t h
  next => cases h; exact .same rfl

/-- Every test of a bank that passes the check finds no error (R131 to R133). -/
theorem itemError_none_of_passes {b : Bank} (passes : b.passes = true) : ∀ it ∈ checkOrder, b.itemError it = none := by
  simpa [Bank.passes, Bank.checkFrom, Bank.firstError, Option.isNone_iff_eq_none, List.findSome?_eq_none_iff] using passes

/-- What the relays' laws need of the entry and the class of a relay that a bank defines. -/
structure RelaysSound (b : Bank) : Prop where
  entry : ∀ r : RelayIdx, (b.relays[r]).InRange
  hysteresis : ∀ (r : RelayIdx) (c : RelayCommon), (b.relays[r]).common = some c →
    (b.classOf b.relays[r]).lower < (b.classOf b.relays[r]).upper

theorem relaysSound_of_passes {b : Bank} (passes : b.passes = true) (inRange : b.InRange) : RelaysSound b := by
  refine ⟨inRange.2.relays, fun r c common => ?_⟩
  have sound := itemError_none_of_passes passes
  have relay : b.relayError r = none := sound (.relay r) (by simp [checkOrder])
  have cls : b.classError c.flickerClass = none := sound (.cls c.flickerClass) (by simp [checkOrder])
  have loaded : (b.classes[c.flickerClass]).loaded = true := by
    unfold Bank.relayError at relay
    dsimp only at relay
    rw [common] at relay
    by_contra unloaded
    rw [Bool.not_eq_true] at unloaded
    dsimp only at relay
    rw [unloaded, if_pos (show (!false) = true from rfl)] at relay
    split_ifs at relay
  have classOf : b.classOf b.relays[r] = b.classes[c.flickerClass] := by
    unfold Bank.classOf; rw [common]
  rw [classOf]
  unfold Bank.classError at cls
  dsimp only at cls
  rw [loaded] at cls
  simpa using cls

theorem relaysSound_empty : RelaysSound .empty := by
  have none (r : RelayIdx) : Bank.empty.relays[r] = .none := by simp [Bank.empty]
  refine ⟨fun r => ?_, fun r c common => ?_⟩
  · rw [none]
    trivial
  · rw [none] at common
    exact nomatch common

theorem relaysSound_of_tablesLaw {s : State} (h : s.TablesLaw) : RelaysSound s.tables.active := by
  rcases h.active with empty | ⟨passes, inRange⟩
  · rw [empty]
    exact relaysSound_empty
  · exact relaysSound_of_passes passes inRange

/-- A relay of a card's set has an entry that names its card (R39). -/
theorem common_of_mem_eventSet {b : Bank} {e : CardEvent} {r : RelayIdx} (h : r ∈ eventSet b e) :
    ∃ c, (b.relays[r]).common = some c := by
  cases e with
  | cardOut n t =>
    obtain ⟨c, common, -⟩ := mem_relaysOf.1 (show r ∈ b.relaysOf n from h)
    exact ⟨c, common⟩
  | knownInputs n fallen risen t =>
    obtain ⟨c, common, -⟩ := mem_relaysOf.1 (List.mem_filter.1 (show r ∈ b.relaysNaming n fallen from h)).1
    exact ⟨c, common⟩

theorem ne_none_of_common {e : RelayEntry} {c : RelayCommon} (common : e.common = some c) : e ≠ .none := by
  rintro rfl
  exact nomatch common

/-- A relay carried over a swap has the entry, the Class record and the Card entry it had (R140). -/
theorem relayCarried_iff {old new : Bank} {r : RelayIdx} : relayCarried old new r = true ↔
    ∃ c, (new.relays[r]).common = some c ∧ old.relays[r] = new.relays[r] ∧
      old.classes[c.flickerClass] = new.classes[c.flickerClass] ∧ old.cards[c.card] = new.cards[c.card] := by
  unfold relayCarried
  cases (new.relays[r]).common <;> simp [and_assoc]

/-- Every relay step keeps the relays lawful. -/
theorem RelayStep.relaysLaw {x y : RelaySide} (step : RelayStep x y) (sound : RelaysSound x.bank)
    (h : ∀ r : RelayIdx, RelayLaw x.bank.relays[r] (x.bank.classOf x.bank.relays[r]) x.relays[r]) (r : RelayIdx) :
    RelayLaw y.bank.relays[r] (y.bank.classOf y.bank.relays[r]) y.relays[r] := by
  cases step with
  | same same => rw [same]; exact h r
  | card n time bank relays _ _ _ => rw [bank, relays]; exact h r
  | pass n t values _ rest relays =>
    have bank : y.bank = x.bank := (congrArg RelaySide.bank rest).trans rfl
    rw [relays, bank]
    split
    next mem =>
      obtain ⟨c, common, -⟩ := mem_relaysOf.1 mem
      exact sampleRelay_relayLaw t (ne_none_of_common common) (sound.entry r) (sound.hysteresis r c common) (h r)
    next => exact h r
  | event e rest waiting others relays =>
    have bank : y.bank = x.bank := (congrArg RelaySide.bank others).trans rfl
    rw [relays, bank]
    split
    next mem =>
      obtain ⟨c, common⟩ := common_of_mem_eventSet mem
      exact eventRelay_relayLaw _ _ (ne_none_of_common common) (h r)
    next => exact h r
  | swap t _ _ relays =>
    rw [relays, carriedRelay]
    split
    next carried =>
      obtain ⟨c, common, entry, cls, -⟩ := relayCarried_iff.1 carried
      have sameClass : y.bank.classOf y.bank.relays[r] = x.bank.classOf x.bank.relays[r] := by
        unfold Bank.classOf
        rw [entry, common]
        exact cls.symm
      rw [sameClass, ← entry]
      exact h r
    next => exact reset_relayLaw_of_entry _ _ t
  | reset relays =>
    obtain ⟨t, is⟩ := relays r
    rw [is]
    exact reset_relayLaw_of_entry _ _ t

/-! ### Known inputs (R33, R52, R55) -/

/-- `State.KnownLaw`, as it reads the relays' side. -/
def RelaySide.KnownLaw (x : RelaySide) : Prop :=
  ∀ (r : RelayIdx) (c : RelayCommon), (x.bank.relays[r]).common = some c → (x.relays[r]).contact.proven = true →
    ∀ b ∈ (x.bank.relays[r]).bits,
      (x.known[c.card]).getLsbD b.val = true ∨ x.events.any (CardEvent.takesAway c.card b) = true

theorem knownLaw_iff (s : State) : s.KnownLaw ↔ (relaySide s).KnownLaw := Iff.rfl

/-- An input known before a change of its card is known after it, or taken away by the event that the change sends. -/
theorem serviceEvents_takesAway (n : CardIdx) (time : Time) {before after : CardState × Inputs} {b : Fin 64}
    (known : (serviceFlags before).getLsbD b.val = true) :
    (serviceFlags after).getLsbD b.val = true ∨
      (serviceEvents n time before after).any (CardEvent.takesAway n b) = true := by
  have served : before.1 = .inService := by
    by_contra out
    simp [serviceFlags, out] at known
  have good : before.2.getLsbD b.val = false := by simpa [serviceFlags, served, b.isLt] using known
  by_cases serves : after.1 = .inService
  · cases bad : after.2.getLsbD b.val with
    | false => exact .inl (by simpa [serviceFlags, serves] using bad)
    | true =>
      have moved : before.2 ≠ after.2 := fun same => by rw [same, bad] at good; exact nomatch good
      exact .inr (by simpa [serviceEvents, served, serves, moved, CardEvent.takesAway, bad] using good)
  · exact .inr (by simp [serviceEvents, served, serves, CardEvent.takesAway])

/-- An event that takes an input away acts on every relay that names it (R55). -/
theorem mem_eventSet_of_takesAway {bank : Bank} {r : RelayIdx} {c : RelayCommon} {b : Fin 64} {e : CardEvent}
    (common : (bank.relays[r]).common = some c) (named : b ∈ (bank.relays[r]).bits) (takes : e.takesAway c.card b = true) :
    r ∈ eventSet bank e := by
  cases e with
  | cardOut n t => exact mem_relaysOf.2 ⟨c, common, (of_decide_eq_true takes).symm⟩
  | knownInputs n fallen risen t =>
    obtain ⟨card, fell⟩ : n = c.card ∧ fallen.getLsbD b.val = true := by simpa [CardEvent.takesAway] using takes
    exact List.mem_filter.2 ⟨mem_relaysOf.2 ⟨c, common, card.symm⟩, List.any_eq_true.2 ⟨b, named, fell⟩⟩

theorem eventRelay_contact (reason : UnprovenReason) (t : Time) (r : RelayRuntime) :
    (eventRelay reason t r).contact = .unproven reason ∧ (eventRelay reason t r).status = .unproven := by
  rw [eventRelay_eq]; exact ⟨rfl, rfl⟩

/-- A relay that a pass leaves proven has every input it names known (R42). -/
theorem known_of_sampleRelay {e : RelayEntry} {k : ClassRecord} {values known : Inputs} {t : Time} {r : RelayRuntime}
    (proven : (sampleRelay e k (rawDecode e values known) t r).contact.proven = true) :
    ∀ b ∈ e.bits, known.getLsbD b.val = true := by
  refine rawDecode_known (values := values) fun unknown => ?_
  rw [unknown, (sampleRelay_unknown e k t r).1] at proven
  exact nomatch proven

/-- Every relay step keeps the law of the known inputs, where the flags are those of the cards (R33). -/
theorem RelayStep.knownLaw {x y : RelaySide} (step : RelayStep x y)
    (flags : ∀ n : CardIdx, x.known[n] = serviceFlags (x.service n)) (h : x.KnownLaw) : y.KnownLaw := by
  intro r c common proven b named
  cases step with
  | same same => subst same; exact h r c common proven b named
  | card n time bank relays others flagsAfter events =>
    rw [bank] at common named
    rw [relays] at proven
    rw [events, List.any_append, Bool.or_eq_true]
    rcases h r c common proven b named with known | taken
    · by_cases own : c.card = n
      · subst own
        rw [flags] at known
        rw [flagsAfter]
        exact (serviceEvents_takesAway c.card time known).imp_right .inr
      · exact .inl (by rw [(others c.card own).2]; exact known)
    · exact .inr (.inl taken)
  | pass n t values _ rest relays =>
    have bank : y.bank = x.bank := (congrArg RelaySide.bank rest).trans rfl
    have known : y.known = x.known := (congrArg RelaySide.known rest).trans rfl
    have events : y.events = x.events := (congrArg RelaySide.events rest).trans rfl
    rw [bank] at common named
    rw [relays] at proven
    rw [known, events]
    split at proven
    next mem =>
      obtain ⟨d, common', card⟩ := mem_relaysOf.1 mem
      obtain rfl := Option.some.inj (common.symm.trans common')
      subst card
      exact .inl (known_of_sampleRelay proven b named)
    next => exact h r c common proven b named
  | event e rest waiting others relays =>
    have bank : y.bank = x.bank := (congrArg RelaySide.bank others).trans rfl
    have known : y.known = x.known := (congrArg RelaySide.known others).trans rfl
    have events : y.events = rest := (congrArg RelaySide.events others).trans rfl
    rw [bank] at common named
    rw [relays] at proven
    rw [known, events]
    split at proven
    next =>
      rw [(eventRelay_contact _ _ _).1] at proven
      exact nomatch proven
    next away =>
      have before := h r c common proven b named
      rw [waiting, List.any_cons, Bool.or_eq_true] at before
      exact before.imp_right fun taken =>
        taken.resolve_left fun takes => away (mem_eventSet_of_takesAway common named takes)
  | swap t events cards relays =>
    rw [relays, carriedRelay] at proven
    split at proven
    next carried =>
      obtain ⟨d, common', entry, -, card⟩ := relayCarried_iff.1 carried
      obtain rfl := Option.some.inj (common.symm.trans common')
      rw [(cards c.card card).2, ← flags, events]
      rw [← entry] at common named
      exact h r c common proven b named
    next => exact nomatch proven
  | reset relays =>
    obtain ⟨t, is⟩ := relays r
    rw [is] at proven
    exact nomatch proven

/-! ### Cards out of service (R33, R55) -/

/-- `State.OutOfServiceLaw`, as it reads the relays' side. -/
def RelaySide.OutOfServiceLaw (x : RelaySide) : Prop :=
  ∀ (r : RelayIdx) (c : RelayCommon), (x.bank.relays[r]).common = some c → (x.service c.card).1 ≠ .inService →
    (x.relays[r]).status = .unproven ∨ ∃ t, CardEvent.cardOut c.card t ∈ x.events

theorem outOfServiceLaw_iff (s : State) : s.OutOfServiceLaw ↔ (relaySide s).OutOfServiceLaw := Iff.rfl

/-- Every relay step keeps the law of the cards out of service. -/
theorem RelayStep.outOfServiceLaw {x y : RelaySide} (step : RelayStep x y) (h : x.OutOfServiceLaw) :
    y.OutOfServiceLaw := by
  intro r c common out
  cases step with
  | same same => subst same; exact h r c common out
  | card n time bank relays others _ events =>
    rw [bank] at common
    rw [relays, events]
    by_cases left : c.card = n ∧ (x.service n).1 = .inService
    · obtain ⟨rfl, served⟩ := left
      have sent : serviceEvents c.card time (x.service c.card) (y.service c.card) = [.cardOut c.card time] := by
        simp [serviceEvents, served, out]
      exact .inr ⟨time, List.mem_append_right _ (by rw [sent]; exact List.mem_singleton_self _)⟩
    · have outBefore : (x.service c.card).1 ≠ .inService := by
        by_cases own : c.card = n
        · subst own
          exact fun served => left ⟨rfl, served⟩
        · rwa [← (others c.card own).1]
      exact (h r c common outBefore).imp_right fun ⟨t, sent⟩ => ⟨t, List.mem_append_left _ sent⟩
  | pass n t values serving rest relays =>
    have bank : y.bank = x.bank := (congrArg RelaySide.bank rest).trans rfl
    have service : y.service = x.service := (congrArg RelaySide.service rest).trans rfl
    have events : y.events = x.events := (congrArg RelaySide.events rest).trans rfl
    rw [bank] at common
    rw [service] at out
    rw [relays, events, if_neg]
    · exact h r c common out
    · intro mem
      obtain ⟨d, common', card⟩ := mem_relaysOf.1 mem
      obtain rfl := Option.some.inj (common.symm.trans common')
      exact out (card ▸ serving)
  | event e rest waiting others relays =>
    have bank : y.bank = x.bank := (congrArg RelaySide.bank others).trans rfl
    have service : y.service = x.service := (congrArg RelaySide.service others).trans rfl
    have events : y.events = rest := (congrArg RelaySide.events others).trans rfl
    rw [bank] at common
    rw [service] at out
    rw [relays, events]
    split
    next => exact .inl (eventRelay_contact _ _ _).2
    next away =>
      refine (h r c common out).imp_right fun ⟨t, sent⟩ => ⟨t, ?_⟩
      rw [waiting] at sent
      refine (List.mem_cons.1 sent).resolve_left fun first => away ?_
      rw [← first]
      exact mem_relaysOf.2 ⟨c, common, rfl⟩
  | swap t events cards relays =>
    rw [relays, carriedRelay, events]
    split
    next carried =>
      obtain ⟨d, common', entry, -, card⟩ := relayCarried_iff.1 carried
      obtain rfl := Option.some.inj (common.symm.trans common')
      rw [← entry] at common
      rw [(cards c.card card).1] at out
      exact h r c common out
    next => exact .inl rfl
  | reset relays =>
    obtain ⟨t, is⟩ := relays r
    rw [is]
    exact .inl rfl

/-- Settles O59: a step does one of the things that `RelayStep` lists, and each of them keeps the three laws. -/
theorem everyStepKeepsTheRelaysLawful : Obligations.EveryStepKeepsTheRelaysLawful := by
  intro s t h
  have step := step_relayStep h
  exact ⟨fun tables relays => step.relaysLaw (relaysSound_of_tablesLaw tables) relays,
    fun cards known => (knownLaw_iff t).2 (step.knownLaw cards.known ((knownLaw_iff s).1 known)),
    fun out => (outOfServiceLaw_iff t).2 (step.outOfServiceLaw ((outOfServiceLaw_iff s).1 out))⟩

end Sys2Proof.Proofs

namespace Sys2Proof.Proofs
open Sys2Proof Sys2Proof.Machine Sys2Proof.Laws

/-! ### A card event taken (R54, R55, R71) -/

/-- The command that takes a card event. -/
def eventCommand : CardEvent → Instr
  | .cardOut _ _ => .cardOutEvent
  | .knownInputs _ _ _ _ => .knownInputsEvent

/-- The state after the event at the front has been taken. -/
def eventTaken (e : CardEvent) (s : State) : State :=
  applyEvent (eventReason e) (eventTime e) (eventSet s.tables.active e) (popEvent s)

/-- A card event that waits with no swap in progress is taken by its command (R55, R56). -/
theorem exec_eventCommand {s : State} {event : CardEvent} {rest : List CardEvent} (noSwap : s.swapping = false)
    (waiting : s.evaluator.events = event :: rest) : exec (eventCommand event) s = .next (eventTaken event s) := by
  have first : s.evaluator.events.head? = some event := congrArg List.head? waiting
  cases event with
  | cardOut n t =>
    show execCardOutEvent s = _
    unfold execCardOutEvent
    rw [if_neg (Bool.not_eq_true _ ▸ noSwap), first]
    rfl
  | knownInputs n fallen risen t =>
    show execKnownInputsEvent s = _
    unfold execKnownInputsEvent
    rw [if_neg (Bool.not_eq_true _ ▸ noSwap), first]
    rfl

/-- Does the event act on the relay of this entry (R55)? -/
def EventNames (event : CardEvent) (e : RelayEntry) : Prop :=
  match e.common with
  | none => False
  | some c => match event with
    | .cardOut n _ => c.card = n
    | .knownInputs n fallen _ _ => c.card = n ∧ ∃ b ∈ e.bits, fallen.getLsbD b.val = true

theorem mem_eventSet_iff {b : Bank} {event : CardEvent} {r : RelayIdx} :
    r ∈ eventSet b event ↔ EventNames event b.relays[r] := by
  cases event with
  | cardOut n t =>
    show r ∈ b.relaysOf n ↔ _
    rw [mem_relaysOf]
    unfold EventNames
    cases (b.relays[r]).common <;> simp
  | knownInputs n fallen risen t =>
    show r ∈ b.relaysNaming n fallen ↔ _
    unfold Bank.relaysNaming EventNames
    rw [List.mem_filter, mem_relaysOf, List.any_eq_true]
    cases (b.relays[r]).common <;> simp

/-- A card event offers the RELAY record of each relay of its set whose fault class changes, and no other RELAY record
(R54). -/
theorem applyEvent_record {s u : State} (reason : UnprovenReason) (t : Time) {rs : List RelayIdx} (distinct : rs.Nodup)
    (r : RelayIdx) (relays : u.relays = s.relays) (h : Holding (Unoffered s (.relay r)) (OfOther (.relay r)) u) :
    let v := applyEvent reason t rs u
    if faultClass (s.relays[r]).status = faultClass (v.relays[r]).status then s.NotOffered v (.relay r)
    else s.Offered v (.relay r) (.relay (v.relays[r]).status (v.relays[r]).contact) (v.relays[r]).statusTime := by
  have after := applyEvent_get reason t distinct u r
  have eq := applyEvent_eq reason t distinct u
  have begun := (unoffered_invariant (relay_not_condition r) s).keeps_away [.evaluator] h
    (t := beginPass none u) (by intro p; cases p <;> simp [Part.same]) rfl
  rw [relays] at after
  intro v
  rw [show v.relays[r] = _ from after]
  have unoffered (same : r ∈ rs → faultClass u.relays[r].status = faultClass (eventRelay reason t u.relays[r]).status) :
      s.NotOffered v (.relay r) := by
    have kept := (unoffered_invariant (relay_not_condition r) s).indicationPass (t := t) (fun _ _ _ => nofun)
      (foldl_storeRelay_unoffered (u := beginPass none u) (fun r => eventRelay reason t u.relays[r]) distinct same begun)
    rw [← eq] at kept
    exact kept.1.2
  by_cases mine : r ∈ rs
  case neg =>
    rw [if_neg mine, if_pos rfl]
    exact unoffered fun m => absurd m mine
  rw [if_pos mine, ← relays]
  split
  next fault => exact unoffered fun _ => fault
  next fault =>
    have offered := (offeredOnce_invariant (relay_not_condition r) s _ _).indicationPass (t := t) (fun _ _ _ => nofun)
      (foldl_storeRelay_offered (u := beginPass none u) (fun r => eventRelay reason t u.relays[r]) distinct mine fault
        begun)
    rw [← eq] at offered
    exact offered.1

/-- What the taking of a card event does to the relays, as R55 and R71 have it. -/
theorem eventTaken_relay (event : CardEvent) (s : State) (r : RelayIdx) :
    let x := s.relays[r]
    (EventNames event s.tables.active.relays[r] → (eventTaken event s).relays[r] =
      { contact := .unproven (eventReason event)
        overlay := if x.overlay = .flashing then .none else x.overlay
        candidate := none, candidateLength := 0, candidateTime := x.candidateTime
        transitLength := 0, priorSteady := x.priorSteady, runLength := x.runLength
        flickerLevel := x.flickerLevel, flashCount := 0, status := .unproven
        statusTime := if x.status = .unproven then x.statusTime else eventTime event }) ∧
    (¬EventNames event s.tables.active.relays[r] → (eventTaken event s).relays[r] = s.relays[r]) := by
  have distinct := eventSet_nodup s.tables.active event
  have after := applyEvent_get (eventReason event) (eventTime event) distinct (popEvent s) r
  intro x
  refine ⟨fun named => ?_, fun away => ?_⟩
  · rw [if_pos (mem_eventSet_iff.2 named), eventRelay_eq] at after
    exact after
  · rw [if_neg fun mem => away (mem_eventSet_iff.1 mem)] at after
    exact after

theorem eventTaken_record (event : CardEvent) {s : State} (none : s.conditions.waiting = []) (r : RelayIdx) :
    let x := s.relays[r]
    let y := (eventTaken event s).relays[r]
    if faultClass x.status = faultClass y.status then s.NotOffered (eventTaken event s) (.relay r)
    else s.Offered (eventTaken event s) (.relay r) (.relay y.status y.contact) y.statusTime := by
  have popped := (unoffered_invariant (relay_not_condition r) s).keeps_away (t := popEvent s) _ (unoffered_refl _ none)
    (popEvent_changesOnly s) rfl
  exact applyEvent_record (eventReason event) (eventTime event) (eventSet_nodup s.tables.active event) r rfl popped

theorem eventTaken_evaluator {event : CardEvent} {rest : List CardEvent} {s : State}
    (waiting : s.evaluator.events = event :: rest) :
    (eventTaken event s).evaluator =
      { events := rest, inFlight := false, changed := []
        pass := some { card := none, relays := s.relays, indications := s.indications, report := s.report
                       conditions := s.conditions, choices := s.choices, time := s.time, place := 0 } } := by
  have after := applyEvent_evaluator (eventReason event) (eventTime event) (eventSet_nodup s.tables.active event)
    (popEvent s)
  have events : (beginPass none (popEvent s)).evaluator.events = rest := congrArg List.tail waiting
  rw [eventTaken, after]
  dsimp only
  rw [events]
  rfl

theorem eventTaken_changesOnly (event : CardEvent) (s : State) :
    s.changesOnly (eventTaken event s) ([.relays, .evaluator, .indications] ++ announceParts) :=
  changesOnly_then (changesOnly_mono _ (popEvent_changesOnly s)) (applyEvent_changesOnly _ _ _ _)

/-- Settles O17: the event is popped, each relay of its set is stored as UNPROVEN, and the indication pass follows. -/
theorem cardEventsUnproveTheirRelays : Obligations.CardEventsUnproveTheirRelays := by
  intro s event rest noSwap waiting
  have exec := exec_eventCommand noSwap waiting
  have evaluator := eventTaken_evaluator waiting
  have relays := eventTaken_relay event s
  have record := fun none => eventTaken_record event (s := s) none
  have frame := eventTaken_changesOnly event s
  cases event with
  | cardOut n t => exact ⟨_, exec, evaluator, relays, record, frame⟩
  | knownInputs n fallen risen t => exact ⟨_, exec, evaluator, relays, record, frame⟩

end Sys2Proof.Proofs

namespace Sys2Proof.Proofs
open Sys2Proof Sys2Proof.Machine Sys2Proof.Laws

/-! ### Bytes as numbers (R165, R167) -/

/-- The number that bytes spell, most significant byte first. -/
def bytesNumber (bytes : List Byte) : Nat := bytes.foldl (fun n b => 256 * n + b.toNat) 0

@[simp] theorem bytesNumber_singleton (b : Byte) : bytesNumber [b] = b.toNat := by simp [bytesNumber]

@[simp] theorem bytesNumber_be16 (n : BitVec 16) : bytesNumber (be16 n) = n.toNat := by
  simp only [bytesNumber, be16, List.foldl, BitVec.extractLsb'_toNat]
  have := n.isLt
  omega

@[simp] theorem bytesNumber_be32 (n : BitVec 32) : bytesNumber (be32 n) = n.toNat := by
  simp only [bytesNumber, be32, List.foldl, BitVec.extractLsb'_toNat]
  have := n.isLt
  omega

theorem byte_toNat {n : Nat} (h : n ≤ 255) : (byte n).toNat = n := by
  rw [byte, BitVec.toNat_ofNat]
  omega

theorem word16_toNat {n : Nat} (h : n ≤ 65535) : (word16 n).toNat = n := by
  rw [word16, BitVec.toNat_ofNat]
  omega

theorem codeByte_toNat (c : Option Code) : (codeByte c).toNat = match c with
    | some c => c.val
    | none => 255 := by
  cases c with
  | none => rfl
  | some c => exact byte_toNat (by omega)

theorem statusNumber_le (st : Status) : statusNumber st ≤ 6 := by cases st <;> decide

theorem reasonNumber_le (c : Contact) : reasonNumber c ≤ 5 := by
  cases c with
  | steady d => exact Nat.zero_le _
  | transit => exact Nat.zero_le _
  | unproven x => cases x <;> decide
  | contradictory x => cases x <;> decide

theorem relayStatusByte_toNat (st : Status) (c : Contact) :
    (relayStatusByte st c).toNat = statusNumber st + 16 * reasonNumber c := by
  have status := statusNumber_le st
  have reason := reasonNumber_le c
  exact byte_toNat (by omega)

theorem cardByte_toNat (state : CardState) (proving : ProvingStatus) :
    (cardByte state proving).toNat =
      cardStateNumber state + 8 * cardReasonNumber state + (if proving = .fail then 128 else 0) := by
  have bounds : cardStateNumber state ≤ 6 ∧ cardReasonNumber state ≤ 3 := by
    cases state with
    | faulty x => cases x <;> decide
    | _ => decide
  refine byte_toNat ?_
  split <;> omega

theorem flagByte_toNat (b : Bool) : (flagByte b).toNat = if b then 1 else 0 := by cases b <;> rfl

theorem flagsByte_pair_toNat (a b : Bool) :
    (flagsByte [a, b]).toNat = (if a then 1 else 0) + (if b then 2 else 0) := by
  cases a <;> cases b <;> rfl

/-- The fourteen bytes of a record, field by field. -/
theorem recordBytes_eq (r : ChangeRecord) : recordBytes r =
    [byte (subjectKindNumber r.subject)] ++ be16 (word16 (subjectIndex r.subject)) ++ [valueByte r.value] ++
      be32 r.firstTime ++ be32 r.lastTime ++ [byte r.count] ++ [flagByte r.timeValid] := by
  simp [recordBytes]

theorem subjectKindNumber_le (x : Subject) : subjectKindNumber x ≤ 5 := by
  unfold subjectKindNumber; split <;> decide

theorem subjectIndex_le (x : Subject) : subjectIndex x ≤ 767 := by
  cases x with
  | indication i => exact (Nat.lt_succ_iff.1 i.isLt).trans (by decide)
  | relay r => exact Nat.lt_succ_iff.1 r.isLt
  | card c => exact (Nat.lt_succ_iff.1 c.isLt).trans (by decide)
  | condition n => exact (Nat.lt_succ_iff.1 n.isLt).trans (by decide)
  | restarted => exact Nat.zero_le _
  | resync => decide

/-! ### Items by their place in the collection (R119) -/

/-- The items numbered over a range: as many as the range has numbers, each made from its own number. -/
theorem getElem?_map_finRange {α : Type} {n k : Nat} {f : Fin n → α} {a : α}
    (h : ((List.finRange n).map f)[k]? = some a) : ∃ i : Fin n, i.val = k ∧ a = f i := by
  rw [List.getElem?_map, Option.map_eq_some_iff] at h
  obtain ⟨i, found, rfl⟩ := h
  obtain ⟨bound, is⟩ := List.getElem?_eq_some_iff.1 found
  refine ⟨i, ?_, rfl⟩
  rw [← is, List.getElem_finRange]
  rfl

theorem length_flatMap_of_width {α β : Type} {f : α → List β} {w : Nat} (width : ∀ x, (f x).length = w) (l : List α) :
    (l.flatMap f).length = w * l.length := by
  induction l with
  | nil => rfl
  | cons x l ih => rw [List.flatMap_cons, List.length_append, width, ih, List.length_cons, Nat.mul_succ, Nat.add_comm]

/-- Lists of one width laid one after another: the place of an element gives its list and its place there. -/
theorem getElem?_flatMap_of_width {α β : Type} {f : α → List β} {w : Nat} (width : ∀ x, (f x).length = w) (l : List α)
    {j : Nat} (inside : j < w) (n : Nat) : (l.flatMap f)[w * n + j]? = l[n]?.bind fun x => (f x)[j]? := by
  induction l generalizing n with
  | nil => rfl
  | cons x l ih =>
    rw [List.flatMap_cons]
    cases n with
    | zero => rw [Nat.mul_zero, Nat.zero_add, List.getElem?_append_left (by rw [width]; exact inside)]; rfl
    | succ n =>
      have past : w * (n + 1) + j = (f x).length + (w * n + j) := by rw [width, Nat.mul_succ]; omega
      rw [past, List.getElem?_append_right (Nat.le_add_right _ _), Nat.add_sub_cancel_left, ih]
      rfl

theorem laneCounters_length (l : LaneReceiver) : l.counterList.length = 6 := rfl
theorem cardCounters_length (c : CardContext) : c.counters.toList.length = 8 := rfl

theorem counterList_length (s : State) : s.counterList.length = 232 := by
  unfold State.counterList
  rw [List.length_append, List.length_append, length_flatMap_of_width laneCounters_length,
    length_flatMap_of_width cardCounters_length, Vector.length_toList, Vector.length_toList]
  rfl

/-- The lane counters come first, six of each lane (R119). -/
theorem counterList_lane (s : State) (n : CardIdx) {j : Nat} (inside : j < 6) :
    s.counterList[6 * n.val + j]? = s.lanes[n].counterList[j]? := by
  have lanes : (s.lanes.toList.flatMap LaneReceiver.counterList).length = 96 := by
    rw [length_flatMap_of_width laneCounters_length, Vector.length_toList]
  unfold State.counterList
  rw [List.append_assoc, List.getElem?_append_left (by omega), getElem?_flatMap_of_width laneCounters_length _ inside]
  simp

/-- The card counters follow, eight of each card (R119). -/
theorem counterList_card (s : State) (n : CardIdx) {j : Nat} (inside : j < 8) :
    s.counterList[96 + 8 * n.val + j]? = s.cards[n].counters.toList[j]? := by
  have lanes : (s.lanes.toList.flatMap LaneReceiver.counterList).length = 96 := by
    rw [length_flatMap_of_width laneCounters_length, Vector.length_toList]
  have cards : (s.cards.toList.flatMap fun c => c.counters.toList).length = 128 := by
    rw [length_flatMap_of_width cardCounters_length, Vector.length_toList]
  unfold State.counterList
  rw [List.append_assoc, List.getElem?_append_right (by omega), lanes,
    show 96 + 8 * n.val + j - 96 = 8 * n.val + j by omega, List.getElem?_append_left (by omega),
    getElem?_flatMap_of_width cardCounters_length _ inside]
  simp

/-- The link counters come last (R119). -/
theorem counterList_link (s : State) (j : Nat) : s.counterList[224 + j]? = s.link.counters.toList[j]? := by
  have before : (s.lanes.toList.flatMap LaneReceiver.counterList ++
      s.cards.toList.flatMap fun c => c.counters.toList).length = 224 := by
    rw [List.length_append, length_flatMap_of_width laneCounters_length, length_flatMap_of_width cardCounters_length,
      Vector.length_toList, Vector.length_toList]
  unfold State.counterList
  rw [List.getElem?_append_right (by omega), before, Nat.add_sub_cancel_left]

/-- A COUNTERS item is the two bytes of the counter at its place. -/
theorem counterItem {s : State} {c : CardIdx} {k : Nat} {bytes : List Byte}
    (item : (s.items .counters c)[k]? = some bytes) :
    ∃ x, s.counterList[k]? = some x ∧ bytes.length = 2 ∧ bytesNumber bytes = x.toNat := by
  rw [show s.items .counters c = s.counterList.map be16 from rfl, List.getElem?_map, Option.map_eq_some_iff] at item
  obtain ⟨x, counter, rfl⟩ := item
  exact ⟨x, counter, rfl, bytesNumber_be16 x⟩

theorem cards_getElem? (s : State) (n : CardIdx) : s.cards.toList[n.val]? = some s.cards[n] := by simp

/-- A CARD item is the byte of the card at its place. -/
theorem cardItem {s : State} {c : CardIdx} {k : Nat} {bytes : List Byte} (item : (s.items .card c)[k]? = some bytes) :
    ∃ x, s.cards.toList[k]? = some x ∧ bytes = [cardByte x.state x.proving] := by
  rw [show s.items .card c = s.cards.toList.map (fun c => [cardByte c.state c.proving]) from rfl, List.getElem?_map,
    Option.map_eq_some_iff] at item
  obtain ⟨x, found, rfl⟩ := item
  exact ⟨x, found, rfl⟩

/-! ### What a frame built now finds (R58, R89) -/

theorem shownRelay_eq_relayAt {s : State} {place : Nat} (found : ∀ p, s.evaluator.pass = some p → p.place = place)
    (r : RelayIdx) : s.shownRelay r = s.relayAt place r := by
  unfold State.shownRelay State.relayAt
  cases pass : s.evaluator.pass with
  | none => rfl
  | some p => rw [← found p pass]

theorem shownIndication_eq_entryAt {s : State} {place : Nat}
    (found : ∀ p, s.evaluator.pass = some p → p.place = place) (i : IndicationIdx) :
    s.shownIndication i = s.entryAt place i := by
  unfold State.shownIndication State.entryAt
  cases pass : s.evaluator.pass with
  | none => rfl
  | some p => rw [← found p pass]

/-- Settles O35: each field's bytes and each collection's items, read by their numbers. -/
theorem bytesOfRecordsAndItems : Obligations.BytesOfRecordsAndItems := by
  unfold Obligations.BytesOfRecordsAndItems
  intro number code relayStatus card
  have relayStatus_eq (st : Status) (c : Contact) : (relayStatusByte st c).toNat = relayStatus st c := by
    rw [relayStatusByte_toNat]
    refine congrArg₂ (fun a b => a + 16 * b) ?_ ?_
    · cases st <;> rfl
    · cases c with
      | unproven x => cases x <;> rfl
      | contradictory x => cases x <;> rfl
      | _ => rfl
  have card_eq (state : CardState) (proving : ProvingStatus) : (cardByte state proving).toNat = card state proving := by
    rw [cardByte_toNat]
    cases proving <;> cases state with
    | faulty x => cases x <;> rfl
    | _ => rfl
  have code_eq (c : Option Code) : (codeByte c).toNat = code c := codeByte_toNat c
  refine ⟨fun r count => ?_, fun s c place found => ?_, fun s => ?_⟩
  · refine ⟨_, _, _, _, _, _, _, recordBytes_eq r, rfl, rfl, rfl, rfl, rfl, rfl, rfl, ?_, ?_, ?_, ?_, ?_, ?_⟩
    · have kind : number [byte (subjectKindNumber r.subject)] = subjectKindNumber r.subject :=
        (bytesNumber_singleton _).trans (byte_toNat ((subjectKindNumber_le _).trans (by decide)))
      have index : number (be16 (word16 (subjectIndex r.subject))) = subjectIndex r.subject :=
        (bytesNumber_be16 _).trans (word16_toNat ((subjectIndex_le _).trans (by decide)))
      rw [kind, index]
      cases r.subject <;> rfl
    · refine (bytesNumber_singleton _).trans ?_
      unfold valueByte
      cases r.value with
      | indication c => exact code_eq c
      | relay status contact => exact relayStatus_eq status contact
      | card state proving => exact card_eq state proving
      | condition n => exact byte_toNat (by omega)
      | restarted => rfl
      | resync => rfl
    · exact bytesNumber_be32 _
    · exact bytesNumber_be32 _
    · exact (bytesNumber_singleton _).trans (byte_toNat count)
    · exact (bytesNumber_singleton _).trans (flagByte_toNat _)
  · refine ⟨⟨by simp [State.items], fun k bytes item => ?_⟩, ⟨by simp [State.items], fun k bytes item => ?_⟩,
      ⟨by simp [State.items], fun k bytes item => ?_⟩, ⟨by simp [State.items], fun k bytes item => ?_⟩,
      ⟨by simp [State.items], fun k bytes item => ?_⟩, ⟨by simp [State.items, counterList_length], fun k bytes item => ?_⟩⟩
    · obtain ⟨i, rfl, rfl⟩ := getElem?_map_finRange item
      refine ⟨rfl, fun j same => ?_⟩
      obtain rfl := Fin.ext same
      rw [shownIndication_eq_entryAt found]
      exact (bytesNumber_singleton _).trans (code_eq _)
    · obtain ⟨i, rfl, rfl⟩ := getElem?_map_finRange item
      refine ⟨rfl, fun j same => ?_⟩
      obtain rfl := Fin.ext same
      rw [shownRelay_eq_relayAt found]
      exact ⟨relayStatus_eq _ _, BitVec.toNat_ofNat ..⟩
    · obtain ⟨i, rfl, rfl⟩ := getElem?_map_finRange item
      exact ⟨rfl, (bytesNumber_singleton _).trans (flagsByte_pair_toNat _ _)⟩
    · obtain ⟨i, rfl, rfl⟩ := getElem?_map_finRange item
      exact ⟨rfl, (bytesNumber_singleton _).trans (flagByte_toNat _)⟩
    · obtain ⟨x, at_k, rfl⟩ := cardItem item
      refine ⟨rfl, fun n same => ?_⟩
      subst same
      obtain rfl := Option.some.inj ((cards_getElem? s n).symm.trans at_k)
      exact (bytesNumber_singleton _).trans (card_eq _ _)
    · obtain ⟨x, at_k, width, value⟩ := counterItem item
      refine ⟨width, fun n j same => ?_, fun n j same => ?_, fun j same => ?_⟩
      · subst same
        rw [counterList_lane s n j.isLt] at at_k
        refine value.trans (congrArg BitVec.toNat (Option.some.inj (at_k.symm.trans ?_)))
        fin_cases j <;> rfl
      · subst same
        rw [counterList_card s n j.isLt] at at_k
        refine value.trans (congrArg BitVec.toNat (Option.some.inj (at_k.symm.trans ?_)))
        fin_cases j <;> rfl
      · subst same
        rw [counterList_link s j.val] at at_k
        refine value.trans (congrArg BitVec.toNat (Option.some.inj (at_k.symm.trans ?_)))
        fin_cases j <;> rfl
  · obtain ⟨place, built⟩ := builtAt_buildsAt (Config.passPlace s.choices) s
    exact ⟨place, built, atBuild_changesOnly s⟩

end Sys2Proof.Proofs

namespace Sys2Proof.Proofs
open Sys2Proof Sys2Proof.Machine Sys2Proof.Laws

/-! ### The steps of a swap, and what each of them offers (R93, R138, R140) -/

/-- A swap's state after its card carry-over. -/
def cardsTaken (t : Time) (s : State) : State := carryCards s.tables.active t (swapBanks s)

/-- A swap's state after its relay carry-over. -/
def relaysTaken (t : Time) (s : State) : State := carryRelays s.tables.active t (cardsTaken t s)

theorem swapCarried_eq (t : Time) (s : State) :
    swapCarried t s = carryIndications s.tables.active t (relaysTaken t s) := rfl

theorem cardsTaken_changesOnly (t : Time) (s : State) :
    (swapBanks s).changesOnly (cardsTaken t s) ([.cards, .input] ++ announceParts) :=
  carryCards_changesOnly s.tables.active t (swapBanks s)

theorem relaysTaken_changesOnly (t : Time) (s : State) :
    (cardsTaken t s).changesOnly (relaysTaken t s) ([.relays] ++ announceParts) :=
  carryRelays_changesOnly s.tables.active t _

section
variable {P : State → Prop} {ok : Offer → Prop} (inv : OfferInvariant P ok)
include inv

/-- The card carry-over makes no offer but of CARD records. -/
theorem OfferInvariant.cardsTaken {s : State} (t : Time)
    (cards : ∀ n v, ok { subject := .card n, value := v, time := t }) (h : Holding P ok s) :
    Holding P ok (cardsTaken t s) := by
  have put := cardsCarried_changesOnly s
  rw [Proofs.cardsTaken, carryCards_eq]
  refine inv.makeKnown _ _ (fun o mem => ?_)
    (inv.keeps_away _ h put (congrArg ConditionUnit.waiting (put .conditions (by decide))))
  obtain ⟨n, -, hers⟩ := List.mem_flatMap.1 mem
  unfold cardOffers at hers
  split at hers
  · exact absurd hers List.not_mem_nil
  · rw [List.mem_singleton.1 hers]
    exact cards n _

/-- The relay carry-over makes no offer but of RELAY records. -/
theorem OfferInvariant.relaysTaken {s : State} (t : Time) (relays : ∀ r x, ok (relayOffer r x))
    (h : Holding P ok (Proofs.cardsTaken t s)) : Holding P ok (relaysTaken t s) := by
  unfold Proofs.relaysTaken carryRelays
  dsimp only
  refine inv.makeKnown _ _ (fun o mem => ?_) (inv.setRelays _ h)
  obtain ⟨r, -, hers⟩ := List.mem_flatMap.1 mem
  unfold swapRelayOffer at hers
  dsimp only at hers
  split at hers
  · exact absurd hers List.not_mem_nil
  · rw [List.mem_singleton.1 hers]
    exact relays r _

/-- The indication carry-over makes no offer but of INDICATION records. -/
theorem OfferInvariant.swapCarried {s : State} (t : Time) (indications : ∀ i c u, ok (indicationOffer i c u))
    (h : Holding P ok (Proofs.relaysTaken t s)) : Holding P ok (swapCarried t s) := by
  rw [swapCarried_eq]
  unfold carryIndications
  dsimp only
  refine inv.offerAll (fun o mem => ?_) (inv.setIndications _ h)
  obtain ⟨i, -, hers⟩ := List.mem_flatMap.1 mem
  unfold swapIndicationOffer at hers
  dsimp only at hers
  split at hers
  · exact absurd hers List.not_mem_nil
  split at hers
  · rw [List.mem_singleton.1 hers]
    exact indications i _ _
  · exact absurd hers List.not_mem_nil

/-- The completion of a swap, and the requests handed on behind it, offer nothing but CONDITION records. -/
theorem OfferInvariant.swapDone {s : State} (t : Time) (h : Holding P ok (Proofs.swapCarried t s)) :
    Holding P ok (handOn (swap t s)) := by
  have done : Holding P ok (swap t s) := by
    rw [swap_eq]
    unfold finishSwap
    dsimp only
    refine inv.announce _ _ (fun _ mem => absurd mem List.not_mem_nil) (inv.keeps_away [.engine, .tables, .link] h ?_ ?_)
    · intro p
      cases (Proofs.swapCarried t s).tables.checker <;> cases p <;> simp [Part.same]
    · cases (Proofs.swapCarried t s).tables.checker <;> simp
  have on := handOn_changesOnly (swap t s)
  exact inv.keeps_away _ done on (congrArg ConditionUnit.waiting (on .conditions (by decide)))

end

/-- `offerAll_flatMap`, where events and levels are made known before the offers. -/
theorem makeKnown_flatMap {x : Subject} (notCondition : ∀ n, x ≠ .condition n) {α : Type} {f : α → List Offer}
    {xs : List α} {a : α} (distinct : xs.Nodup) (mem : a ∈ xs) (others : ∀ b, b ≠ a → ∀ o ∈ f b, OfOther x o)
    (es ls : List ConditionIdx) {s u : State} (h : Holding (Unoffered s x) (OfOther x) u) :
    (f a = [] → Holding (Unoffered s x) (OfOther x) (makeKnown (xs.flatMap f) es ls u)) ∧
      ∀ o, f a = [o] → o.subject = x →
        Holding (OfferedOnce s x o.value o.time) (OfOther x) (makeKnown (xs.flatMap f) es ls u) := by
  have inv := unoffered_invariant notCondition s
  exact offerAll_flatMap notCondition distinct mem others
    (inv.riseAll _ (inv.keeps_away _ h (followLive_changesOnly ls u) rfl))

/-! ### Relays over a swap (R140) -/

theorem relaysTaken_relays (t : Time) (s : State) : (relaysTaken t s).relays = (swap t s).relays := by
  have carried : (swapCarried t s).relays = (relaysTaken t s).relays :=
    carryIndications_changesOnly s.tables.active t (relaysTaken t s) .relays (by decide)
  have finished : (finishSwap (swapCarried t s)).relays = (swapCarried t s).relays :=
    finishSwap_changesOnly (swapCarried t s) .relays (by decide)
  rw [swap_eq, finished, carried]

/-- The relays that the relay carry-over writes, before their records are offered. -/
theorem relaysTaken_eq (t : Time) (s : State) :
    relaysTaken t s = makeKnown ((List.finRange 768).flatMap (swapRelayOffer s.relays (swap t s).relays)) [] [cRelayFault]
      ((cardsTaken t s).setRelays (swap t s).relays) := by
  have relays : (cardsTaken t s).relays = s.relays := cardsTaken_changesOnly t s .relays (by decide)
  have written : (relaysTaken t s).relays =
      Vector.ofFn (carriedRelay s.tables.active (cardsTaken t s).tables.active t (cardsTaken t s).relays) := by
    unfold relaysTaken carryRelays
    dsimp only
    rw [makeKnown_relays, setRelays_relays]
  rw [← relaysTaken_relays, written]
  unfold relaysTaken carryRelays
  dsimp only
  rw [relays]

/-- A relay whose record differs after a swap has been reset in it, at the swap's time (R140). -/
theorem swap_statusTime (t : Time) (s : State) (r : RelayIdx) (moved : (swap t s).relays[r] ≠ s.relays[r]) :
    ((swap t s).relays[r]).statusTime = t := by
  rw [swap_relay, carriedRelay] at moved ⊢
  split at moved
  · exact absurd rfl moved
  next away => rw [if_neg away]; rfl

/-- A swap offers the RELAY record of a relay whose fault class it changes, and of no other (R53, R140). -/
theorem swap_relayRecord {s : State} (none : s.conditions.waiting = []) (t : Time) (r : RelayIdx) :
    let x := s.relays[r]
    let y := (swap t s).relays[r]
    if faultClass x.status = faultClass y.status then s.NotOffered (handOn (swap t s)) (.relay r)
    else s.Offered (handOn (swap t s)) (.relay r) (.relay y.status y.contact) t := by
  have inv := unoffered_invariant (relay_not_condition r) s
  have begun := inv.cardsTaken t (fun n v => nofun) (unoffered_refl (.relay r) none)
  have others (q : RelayIdx) (other : q ≠ r) : ∀ o ∈ swapRelayOffer s.relays (swap t s).relays q, OfOther (.relay r) o := by
    intro o mem
    unfold swapRelayOffer at mem
    dsimp only at mem
    split at mem
    · exact absurd mem List.not_mem_nil
    · rw [List.mem_singleton.1 mem]
      exact relayOffer_other other _
  obtain ⟨unoffered, offered⟩ := makeKnown_flatMap (relay_not_condition r) (List.nodup_finRange 768)
    (List.mem_finRange r) others [] [cRelayFault] (inv.setRelays (swap t s).relays begun)
  rw [← relaysTaken_eq] at unoffered offered
  have time := swap_statusTime t s r
  generalize (swap t s).relays = after at unoffered offered time ⊢
  intro x y
  by_cases same : faultClass x.status = faultClass y.status
  · rw [if_pos same]
    have kept := inv.swapCarried t (fun _ _ _ => nofun) (unoffered (if_pos same))
    exact (inv.swapDone t kept).1.2
  · have moved : (relayOffer r y).time = t := time fun e => same (congrArg (fun z => faultClass z.status) e.symm)
    have made := offered (relayOffer r y) (if_neg same) rfl
    rw [moved] at made
    have once := offeredOnce_invariant (relay_not_condition r) s (relayOffer r y).value t
    rw [if_neg same]
    exact (once.swapDone t (once.swapCarried t (fun _ _ _ => nofun) made)).1

/-! ### Indications over a swap (R92, R93, R141) -/

/-- Is an indication kept (R139, R141)? -/
theorem indicationKept_iff {old new : Bank} {i : IndicationIdx} {e : IndicationEntry}
    (entry : new.indications[i] = some e) : indicationKept old new i = true ↔
      old.indications[i] = some e ∧ old.patterns[e.pattern] = new.patterns[e.pattern] ∧
        ∀ r ∈ e.inputs, relayCarried old new r = true := by
  unfold indicationKept
  rw [entry]
  simp [and_assoc]

theorem atSwap_eq (x : ImageEntry) (defined : Bool) (code : Option Code) (t : Time) :
    x.atSwap defined code t =
      { defined := defined, code := code, changeTime := if x.code = code then x.changeTime else t } := by
  unfold ImageEntry.atSwap
  split
  next same => rw [← same]
  next => rfl

/-- The image entry that a swap leaves, evaluated from the statuses that it leaves (R92, R141). -/
theorem swap_indication (t : Time) (s : State) (i : IndicationIdx) :
    (swap t s).indications[i] = carriedIndication s.tables.active t (relaysTaken t s) i := by
  have finish : (swap t s).indications = (swapCarried t s).indications :=
    finishSwap_changesOnly (swapCarried t s) .indications (by decide)
  rw [finish, swapCarried_eq]
  unfold carryIndications
  dsimp only
  rw [offerAll_indications, setIndications_indications]
  exact Vector.getElem_ofFn i.isLt

/-- What the indication carry-over reads of the state before it: the new bank, the image as it was, and the statuses that the
swap leaves. -/
theorem relaysTaken_reads (t : Time) (s : State) :
    (relaysTaken t s).tables.active = s.tables.staging ∧ (relaysTaken t s).indications = s.indications ∧
      (relaysTaken t s).relays = (swap t s).relays := by
  have cards := cardsTaken_changesOnly t s
  have relays := relaysTaken_changesOnly t s
  have tables : (relaysTaken t s).tables = (swapBanks s).tables :=
    (relays .tables (by decide)).trans (cards .tables (by decide))
  have image : (relaysTaken t s).indications = (swapBanks s).indications :=
    (relays .indications (by decide)).trans (cards .indications (by decide))
  exact ⟨congrArg TableStore.active tables, image, relaysTaken_relays t s⟩

theorem swap_inputStatuses (t : Time) (s : State) (e : IndicationEntry) :
    (relaysTaken t s).inputStatuses e = e.inputs.map fun r => ((swap t s).relays[r]).status := by
  unfold State.inputStatuses
  rw [relaysTaken_relays]

section
variable {s : State} {t : Time} {i : IndicationIdx} {e : IndicationEntry}

theorem swap_undefined (old : s.tables.active.indications[i] = none) (new : s.tables.staging.indications[i] = none) :
    (swap t s).indications[i] = s.indications[i] := by
  obtain ⟨active, image, -⟩ := relaysTaken_reads t s
  rw [swap_indication]
  unfold carriedIndication
  dsimp only
  rw [active, image, old, new]

theorem swap_newlyUndefined (old : s.tables.active.indications[i] ≠ none)
    (new : s.tables.staging.indications[i] = none) :
    (swap t s).indications[i] = s.indications[i].atSwap false none t := by
  obtain ⟨active, image, -⟩ := relaysTaken_reads t s
  obtain ⟨e, entry⟩ := Option.ne_none_iff_exists'.1 old
  rw [swap_indication]
  unfold carriedIndication
  dsimp only
  rw [active, image, entry, new]

theorem swap_redefined (old : s.tables.active.indications[i] ≠ none) (new : s.tables.staging.indications[i] = some e) :
    (swap t s).indications[i] =
      if indicationKept s.tables.active s.tables.staging i then s.indications[i]
      else s.indications[i].atSwap true (some (evaluate e s.tables.staging.patterns[e.pattern]
        (e.inputs.map fun r => ((swap t s).relays[r]).status) s.indications[i].code)) t := by
  obtain ⟨active, image, -⟩ := relaysTaken_reads t s
  obtain ⟨d, entry⟩ := Option.ne_none_iff_exists'.1 old
  rw [swap_indication]
  unfold carriedIndication
  dsimp only
  rw [active, image, entry, new]
  dsimp only
  rw [swap_inputStatuses]

theorem swap_newlyDefined (old : s.tables.active.indications[i] = none)
    (new : s.tables.staging.indications[i] = some e) :
    (swap t s).indications[i] =
      { defined := true, changeTime := t
        code := some (evaluate e s.tables.staging.patterns[e.pattern]
          (e.inputs.map fun r => ((swap t s).relays[r]).status) none) } := by
  obtain ⟨active, image, -⟩ := relaysTaken_reads t s
  rw [swap_indication]
  unfold carriedIndication
  dsimp only
  rw [active, old, new]
  dsimp only
  rw [swap_inputStatuses]

end

/-- The image with which the indication carry-over ends, before its records are offered. -/
theorem swapCarried_offers (t : Time) (s : State) :
    swapCarried t s = offerAll ((List.finRange 512).flatMap (swapIndicationOffer s.tables.active s.tables.staging
      s.indications (swap t s).indications)) ((relaysTaken t s).setIndications (swap t s).indications) := by
  obtain ⟨active, image, -⟩ := relaysTaken_reads t s
  have after : Vector.ofFn (carriedIndication s.tables.active t (relaysTaken t s)) = (swap t s).indications :=
    Vector.ext fun i bound => (Vector.getElem_ofFn bound).trans (swap_indication t s ⟨i, bound⟩).symm
  rw [swapCarried_eq]
  unfold carryIndications
  dsimp only
  rw [after, active, image]

theorem atSwap_moved {x : ImageEntry} {defined : Bool} {code : Option Code} {t : Time}
    (moved : x.code ≠ (x.atSwap defined code t).code) : (x.atSwap defined code t).changeTime = t := by
  rw [atSwap_eq] at moved ⊢
  exact if_neg moved

/-- An indication whose value differs after a swap has the swap's time (R92). -/
theorem swap_changeTime (t : Time) (s : State) (i : IndicationIdx)
    (moved : s.indications[i].code ≠ ((swap t s).indications[i]).code) : ((swap t s).indications[i]).changeTime = t := by
  cases new : s.tables.staging.indications[i] with
  | none =>
    by_cases old : s.tables.active.indications[i] = none
    · rw [swap_undefined old new] at moved
      exact absurd rfl moved
    · rw [swap_newlyUndefined old new] at moved ⊢
      exact atSwap_moved moved
  | some e =>
    by_cases old : s.tables.active.indications[i] = none
    · rw [swap_newlyDefined old new]
    · rw [swap_redefined old new] at moved ⊢
      split at moved
      · exact absurd rfl moved
      next away =>
        rw [if_neg away]
        exact atSwap_moved moved

/-- A swap offers the INDICATION record of an indication whose value it changes and that reports, and no other (R93). -/
theorem swap_indicationRecord {s : State} (none : s.conditions.waiting = []) (t : Time) (i : IndicationIdx) :
    let x := s.indications[i]
    let y := (swap t s).indications[i]
    if x.code ≠ y.code ∧ reportsAtSwap s.tables.active s.tables.staging i = true then
      s.Offered (handOn (swap t s)) (.indication i) (.indication y.code) t
    else s.NotOffered (handOn (swap t s)) (.indication i) := by
  have notCondition : ∀ n, Subject.indication i ≠ .condition n := fun _ => nofun
  have inv := unoffered_invariant notCondition s
  have begun := inv.relaysTaken t (fun _ _ => nofun) (inv.cardsTaken t (fun _ _ => nofun)
    (unoffered_refl (.indication i) none))
  have others (j : IndicationIdx) (other : j ≠ i) : ∀ o ∈ swapIndicationOffer s.tables.active s.tables.staging
      s.indications (swap t s).indications j, OfOther (.indication i) o := by
    intro o mem
    unfold swapIndicationOffer at mem
    dsimp only at mem
    split at mem
    · exact absurd mem List.not_mem_nil
    split at mem
    · rw [List.mem_singleton.1 mem]
      exact fun same => other (Subject.indication.inj same)
    · exact absurd mem List.not_mem_nil
  obtain ⟨unoffered, offered⟩ := offerAll_flatMap notCondition (List.nodup_finRange 512) (List.mem_finRange i) others
    (inv.setIndications (swap t s).indications begun)
  rw [← swapCarried_offers] at unoffered offered
  have time := swap_changeTime t s i
  generalize (swap t s).indications = after at unoffered offered time ⊢
  intro x y
  by_cases offers : x.code ≠ y.code ∧ reportsAtSwap s.tables.active s.tables.staging i = true
  · obtain ⟨moved, reports⟩ := offers
    have offer : swapIndicationOffer s.tables.active s.tables.staging s.indications after i =
        [indicationOffer i y.code y.changeTime] := (if_neg moved).trans (if_pos reports)
    have made := offered _ offer rfl
    rw [show (indicationOffer i y.code y.changeTime).time = t from time moved] at made
    rw [if_pos ⟨moved, reports⟩]
    exact ((offeredOnce_invariant notCondition s (.indication y.code) t).swapDone t made).1
  · have quiet : swapIndicationOffer s.tables.active s.tables.staging s.indications after i = [] := by
      unfold swapIndicationOffer
      dsimp only
      split
      · rfl
      next moved => exact if_neg fun reports => offers ⟨moved, reports⟩
    rw [if_neg offers]
    exact (inv.swapDone t (unoffered quiet)).1.2

/-- Settles O42: the relay and the indication carry-over, each with the records that it offers. -/
theorem swapCarriesRelaysAndIndications : Obligations.SwapCarriesRelaysAndIndications := by
  intro s t taken swapping h
  have state : t = handOn (swap taken s) := by
    have run : exec .commitSwapComplete s = .next (handOn (swap taken s)) := by
      show (.next _ : Result) = _
      rw [swapping]
    exact Host.Outcome.next.inj (h.symm.trans run)
  have frame := handOn_changesOnly (swap taken s)
  have relays : t.relays = (swap taken s).relays := state ▸ frame .relays (by decide)
  have indications : t.indications = (swap taken s).indications := state ▸ frame .indications (by decide)
  intro old new carried
  have carried_iff (r : RelayIdx) : carried r ↔ relayCarried old new r = true := relayCarried_iff.symm
  rw [relays, indications]
  refine ⟨fun r => ?_, fun none r => ?_, fun none i => ?_, fun i => ?_⟩
  · rw [swap_relay, carried_iff]
    exact ⟨fun c => if_pos c, fun c => if_neg c⟩
  · exact state ▸ swap_relayRecord none taken r
  · intro x y reports
    have record := swap_indicationRecord none taken i
    have same : reports = reportsAtSwap old new i := rfl
    rw [same, state]
    refine ⟨fun ⟨moved, reports⟩ => ?_, fun quiet => ?_⟩
    · exact (if_pos (show x.code ≠ _ ∧ _ from ⟨moved.symm, reports⟩)).mp record
    · exact (if_neg (fun ⟨moved, reports⟩ => quiet ⟨moved.symm, reports⟩)).mp record
  · intro x kept settled afresh
    have kept_iff (e : IndicationEntry) (entry : new.indications[i] = some e) :
        kept e ↔ indicationKept old new i = true := by
      rw [indicationKept_iff entry]
      simp only [← carried_iff]
      exact Iff.rfl
    refine ⟨swap_undefined, fun was undefined => ?_, fun e entry stays => ?_, fun e entry was moved => ?_,
      fun e entry undefined => swap_newlyDefined undefined entry⟩
    · rw [swap_newlyUndefined was undefined, atSwap_eq]
    · have was : old.indications[i] ≠ none := by rw [stays.1]; exact Option.some_ne_none e
      rw [swap_redefined was entry, if_pos ((kept_iff e entry).1 stays)]
    · rw [swap_redefined was entry, if_neg fun is => moved ((kept_iff e entry).2 is), atSwap_eq]

end Sys2Proof.Proofs

namespace Sys2Proof.Proofs
open Sys2Proof Sys2Proof.Machine Sys2Proof.Laws

/-! ### What the taking of offers does not look at: the desk link and the evaluators -/

/-- The state with another desk link and other evaluators. -/
def setAside (l : DeskLink) (e : Evaluator) (s : State) : State := (s.setLink l).setEvaluator e

/-- An operation that neither looks at the desk link and the evaluators nor changes them. -/
def Blind (f : State → State) : Prop := ∀ l e s, f (setAside l e s) = setAside l e (f s)

theorem foldl_blind {α : Type} {f : State → α → State} (h : ∀ a, Blind fun s => f s a) (xs : List α) :
    Blind fun s => xs.foldl f s := by
  intro l e s
  induction xs generalizing s with
  | nil => rfl
  | cons x xs ih => exact (congrArg (xs.foldl f) (h x l e s)).trans (ih (f s x))

theorem rise_blind (n : ConditionIdx) : Blind (rise n) := by
  intro l e s
  unfold rise
  rw [show (setAside l e s).canLatch n = s.canLatch n from rfl]
  split <;> rfl

theorem riseAll_blind (ns : List ConditionIdx) : Blind (riseAll ns) := foldl_blind (fun n => rise_blind n) ns

theorem queueTakes_blind (o : Offer) : Blind (queueTakes o) := by
  intro l e s
  unfold queueTakes
  dsimp only
  rw [show (setAside l e s).time = s.time from rfl, show (setAside l e s).report = s.report from rfl]
  split
  · rfl
  · split
    · exact rise_blind cReportHigh l e ((s.setReport _).setLive cReportHigh true)
    · rfl
  · exact rise_blind cReportOverflow l e (s.setReport _)

theorem takeWaiting_blind : Blind takeWaiting := by
  intro l e s
  unfold takeWaiting
  rw [show (setAside l e s).conditions = s.conditions from rfl]
  split
  next o rest _ => exact queueTakes_blind o l e (s.setWaiting rest)
  next => rfl

theorem takeSome_blind (k : Nat) : Blind (takeSome k) := by
  intro l e s
  induction k generalizing s with
  | zero => rfl
  | succ k ih => exact (congrArg (takeSome k) (takeWaiting_blind l e s)).trans (ih (takeWaiting s))

theorem settle_blind : Blind settle := fun l e s => takeSome_blind (s.conditions.waiting.length + 2) l e s

theorem takeFreely_blind : Blind takeFreely := by
  intro l e s
  unfold takeFreely
  rw [show (setAside l e s).conditions = s.conditions from rfl, show (setAside l e s).choices = s.choices from rfl]
  split
  · rfl
  · exact takeSome_blind _ l e (s.setChoices (s.choices + 1))

theorem offer_blind (o : Offer) : Blind (offer o) := fun l e s =>
  (congrArg (queueTakes o) (takeFreely_blind l e s)).trans (queueTakes_blind o l e (takeFreely s))

theorem offerAll_blind (os : List Offer) : Blind (offerAll os) := foldl_blind (fun o => offer_blind o) os

theorem makeKnown_blind (os : List Offer) (es ls : List ConditionIdx) : Blind (makeKnown os es ls) := by
  intro l e s
  have followed : followLive ls (setAside l e s) = setAside l e (followLive ls s) := rfl
  unfold makeKnown
  dsimp only
  rw [followed, riseAll_blind, offerAll_blind]
  rfl

theorem storeIndication_blind (report : Bool) (i : IndicationIdx) (code : Option Code) (t : Time) :
    Blind (storeIndication report i code t) := by
  intro l e s
  unfold storeIndication
  dsimp only
  split
  · exact offer_blind _ l e (s.setIndications _)
  · rfl

/-- A relay's record stored looks at the evaluators only to add to the changed set. -/
theorem storeRelay_setAside (r : RelayIdx) (x : RelayRuntime) (l : DeskLink) (e : Evaluator) (s : State) :
    ∃ e', storeRelay r x (setAside l e s) = setAside l e' (storeRelay r x s) := by
  unfold storeRelay
  dsimp only
  rw [show (setAside l e s).relays = s.relays from rfl]
  by_cases same : (s.relays[r]).status = x.status
  · rw [if_pos same, if_pos same]
    split
    · exact ⟨e, rfl⟩
    · exact ⟨e, makeKnown_blind _ _ _ l e (s.setRelays (s.relays.set r x))⟩
  · rw [if_neg same, if_neg same]
    split
    · exact ⟨_, rfl⟩
    · exact ⟨{ e with changed := e.changed ++ [r] }, makeKnown_blind _ _ _ l _
        ((s.setRelays (s.relays.set r x)).setEvaluator { s.evaluator with changed := s.evaluator.changed ++ [r] })⟩

theorem foldl_storeRelay_setAside (f : RelayIdx → RelayRuntime) (rs : List RelayIdx) (l : DeskLink) (e : Evaluator)
    (s : State) : ∃ e', rs.foldl (fun x r => storeRelay r (f r) x) (setAside l e s) =
      setAside l e' (rs.foldl (fun x r => storeRelay r (f r) x) s) := by
  induction rs generalizing e s with
  | nil => exact ⟨e, rfl⟩
  | cons r rs ih =>
    obtain ⟨e', stored⟩ := storeRelay_setAside r (f r) l e s
    rw [List.foldl_cons, List.foldl_cons, stored]
    exact ih e' _

theorem foldl_storeIndication_blind (report : IndicationIdx → Bool) (code : IndicationIdx → Option Code)
    (time : IndicationIdx → Time) (is : List IndicationIdx) :
    Blind fun s => is.foldl (fun x i => storeIndication (report i) i (code i) (time i) x) s :=
  foldl_blind (fun i => storeIndication_blind (report i) i (code i) (time i)) is

/-! ### A pass with its results stored again (R54, R57, R87) -/

/-- The relay results of a pass stored up to a place, from what stood before it. -/
def relaysReplayed (p : PassInFlight) (place : Nat) (s : State) : State :=
  (p.relaysDone s place).foldl (fun x r => storeRelay r s.relays[r] x) (s.beforePass p)

/-- Both results of a pass stored up to a place. -/
def resultsReplayed (p : PassInFlight) (place : Nat) (s : State) : State :=
  (p.indicationsDone s place).foldl
    (fun x i => storeIndication (s.reports i) i (s.indications[i]).code (s.indications[i]).changeTime x)
    (relaysReplayed p place s)

theorem replay_eq (s : State) (p : PassInFlight) (place : Nat) :
    s.replay p place = (if passEnd ≤ place then settle (resultsReplayed p place s)
      else resultsReplayed p place s).setTime s.time := rfl

theorem relaysReplayed_setAside (p : PassInFlight) (found place : Nat) (l : DeskLink) (e : Evaluator) (c : Nat)
    (s : State) : ∃ e', relaysReplayed { p with place := found } place ((setAside l e s).setChoices c) =
      setAside l e' (relaysReplayed p place s) := by
  have done : PassInFlight.relaysDone { p with place := found } ((setAside l e s).setChoices c) place =
      p.relaysDone s place := rfl
  have begun : ((setAside l e s).setChoices c).beforePass { p with place := found } = setAside l e (s.beforePass p) := rfl
  have relays : ((setAside l e s).setChoices c).relays = s.relays := rfl
  unfold relaysReplayed
  rw [done, begun, relays]
  exact foldl_storeRelay_setAside (fun r => s.relays[r]) (p.relaysDone s place) l e (s.beforePass p)

theorem resultsReplayed_setAside (p : PassInFlight) (found place : Nat) (l : DeskLink) (e : Evaluator) (c : Nat)
    (s : State) : ∃ e', resultsReplayed { p with place := found } place ((setAside l e s).setChoices c) =
      setAside l e' (resultsReplayed p place s) := by
  obtain ⟨e', relays⟩ := relaysReplayed_setAside p found place l e c s
  have done : PassInFlight.indicationsDone { p with place := found } ((setAside l e s).setChoices c) place =
      p.indicationsDone s place := rfl
  have image : ((setAside l e s).setChoices c).indications = s.indications := rfl
  have reports : ((setAside l e s).setChoices c).reports = s.reports := rfl
  unfold resultsReplayed
  rw [relays, done, image, reports]
  exact ⟨e', foldl_storeIndication_blind s.reports (fun i => (s.indications[i]).code)
    (fun i => (s.indications[i]).changeTime) (p.indicationsDone s place) l e' (relaysReplayed p place s)⟩

/-- A replay looks neither at the desk link and the evaluators, nor at the free choices taken since, nor at the place at
which the pass has been found. -/
theorem replay_setAside (p : PassInFlight) (found place : Nat) (l : DeskLink) (e : Evaluator) (c : Nat) (s : State) :
    ∃ e', ((setAside l e s).setChoices c).replay { p with place := found } place = setAside l e' (s.replay p place) := by
  obtain ⟨e', results⟩ := resultsReplayed_setAside p found place l e c s
  refine ⟨e', ?_⟩
  rw [replay_eq, replay_eq, results]
  split
  · rw [settle_blind]
    rfl
  · rfl

end Sys2Proof.Proofs

namespace Sys2Proof.Proofs
open Sys2Proof Sys2Proof.Machine Sys2Proof.Laws

/-! ### RELAY_FAULT over the results of a pass (R54, R157, R158) -/

/-- The enable flags, and RELAY_FAULT's live value and latched flag. -/
def faultFlags (s : State) : Vector Bool 11 × Bool × Bool :=
  (s.conditions.enables, s.conditions.live[cRelayFault], s.conditions.latched[cRelayFault])

theorem faultFlags_rise {n : ConditionIdx} (other : n ≠ cRelayFault) (s : State) :
    faultFlags (rise n s) = faultFlags s := by
  unfold rise
  split
  · have latched : (s.conditions.latched.set n true)[cRelayFault] = s.conditions.latched[cRelayFault] :=
      set_other _ _ other.symm
    exact congrArg (fun b => (s.conditions.enables, s.conditions.live[cRelayFault], b)) latched
  · rfl

theorem faultFlags_queueTakes (o : Offer) (s : State) : faultFlags (queueTakes o s) = faultFlags s := by
  unfold queueTakes
  dsimp only
  split
  · rfl
  · split
    · rw [faultFlags_rise (by decide)]
      have live : (s.conditions.live.set cReportHigh true)[cRelayFault] = s.conditions.live[cRelayFault] :=
        set_other _ _ (by decide)
      exact congrArg (fun b => (s.conditions.enables, b, s.conditions.latched[cRelayFault])) live
    · rfl
  · exact faultFlags_rise (by decide) _

theorem faultFlags_takeSome (k : Nat) (s : State) : faultFlags (takeSome k s) = faultFlags s := by
  have one (u : State) : faultFlags (takeWaiting u) = faultFlags u := by
    unfold takeWaiting
    split
    · exact faultFlags_queueTakes _ _
    · rfl
  induction k generalizing s with
  | zero => rfl
  | succ k ih => exact (ih (takeWaiting s)).trans (one s)

theorem faultFlags_offer (o : Offer) (s : State) : faultFlags (offer o s) = faultFlags s := by
  unfold offer takeFreely
  rw [faultFlags_queueTakes]
  split
  · rfl
  · exact faultFlags_takeSome _ _

theorem faultFlags_offerAll (os : List Offer) (s : State) : faultFlags (offerAll os s) = faultFlags s :=
  List.foldlRecOn (motive := fun u => faultFlags u = faultFlags s) os _ rfl
    fun u h o _ => (faultFlags_offer o u).trans h

theorem faultFlags_storeIndication (report : Bool) (i : IndicationIdx) (code : Option Code) (t : Time) (s : State) :
    faultFlags (storeIndication report i code t s) = faultFlags s := by
  unfold storeIndication
  dsimp only
  split
  · exact faultFlags_offer _ _
  · rfl

/-- Is some relay at fault (R162)? -/
def AtFault (s : State) : Prop := ∃ r : RelayIdx, faultClass (s.relays[r]).status ≠ .normal

theorem relaysAtFault_pos_iff (s : State) : 0 < s.relaysAtFault ↔ AtFault s := by
  unfold State.relaysAtFault AtFault
  rw [List.countP_pos_iff]
  constructor
  · rintro ⟨x, mem, fault⟩
    obtain ⟨k, bound, rfl⟩ := List.getElem_of_mem mem
    exact ⟨⟨k, by simpa using bound⟩, by simpa using fault⟩
  · rintro ⟨r, fault⟩
    exact ⟨s.relays[r], by simp [Vector.mem_toList_iff], by simpa using fault⟩

/-- The rise of RELAY_FAULT latches it where it is enabled (R158). -/
theorem faultFlags_rise_relayFault (s : State) :
    faultFlags (rise cRelayFault s) = (s.conditions.enables, s.conditions.live[cRelayFault],
      s.conditions.latched[cRelayFault] || s.conditions.enables[cRelayFault]) := by
  unfold rise
  split
  next can =>
    obtain ⟨enabled, -⟩ := Bool.and_eq_true_iff.1 can
    have latched : (s.conditions.latched.set cRelayFault true)[cRelayFault] = true := set_same _ _ _
    rw [enabled, Bool.or_true]
    exact congrArg (fun b => (s.conditions.enables, s.conditions.live[cRelayFault], b)) latched
  next cannot =>
    refine congrArg (fun b => (s.conditions.enables, s.conditions.live[cRelayFault], b)) ?_
    cases latched : s.conditions.latched[cRelayFault] with
    | true => rfl
    | false =>
      rw [State.canLatch, latched, Bool.not_false, Bool.and_true, Bool.not_eq_true] at cannot
      rw [cannot]
      rfl

theorem faultFlags_followLive (s : State) : faultFlags (followLive [cRelayFault] s) =
    (s.conditions.enables, s.source cRelayFault, s.conditions.latched[cRelayFault]) :=
  congrArg (fun b => (s.conditions.enables, b, s.conditions.latched[cRelayFault]))
    (followLive_live List.mem_cons_self s)

/-- RELAY_FAULT made to follow its source: it latches where it rises and is enabled (R158). -/
theorem faultFlags_makeKnown (os : List Offer) (s : State) :
    faultFlags (makeKnown os [] [cRelayFault] s) =
      (s.conditions.enables, s.source cRelayFault, s.conditions.latched[cRelayFault] ||
        ((s.source cRelayFault && !s.conditions.live[cRelayFault]) && s.conditions.enables[cRelayFault])) := by
  have followed := faultFlags_followLive s
  unfold makeKnown
  dsimp only
  rw [faultFlags_offerAll, List.nil_append]
  cases rises : s.source cRelayFault && !s.conditions.live[cRelayFault] with
  | false =>
    rw [List.filter_cons_of_neg (by rw [rises]; exact Bool.false_ne_true), List.filter_nil, Bool.false_and, Bool.or_false]
    exact followed
  | true =>
    rw [List.filter_cons_of_pos (p := fun n => s.source n && !s.conditions.live[n]) rises, List.filter_nil, Bool.true_and]
    refine (faultFlags_rise_relayFault _).trans ?_
    exact congrArg (fun f : Vector Bool 11 × Bool × Bool => (f.1, f.2.1, f.2.2 || f.1[cRelayFault])) followed

/-- RELAY_FAULT is live exactly while some relay is at fault. -/
def FaultLive (s : State) : Prop := s.conditions.live[cRelayFault] = decide (0 < s.relaysAtFault)

/-- RELAY_FAULT is latched exactly while it is live and enabled. -/
def FaultLatched (s : State) : Prop :=
  s.conditions.latched[cRelayFault] = (s.conditions.enables[cRelayFault] && s.conditions.live[cRelayFault])

/-- A relay's record stored with its fault class as it was moves no condition and leaves as many relays at fault or none. -/
theorem storeRelay_sameClass {s : State} {r : RelayIdx} {x : RelayRuntime}
    (same : faultClass (s.relays[r]).status = faultClass x.status) :
    (storeRelay r x s).conditions = s.conditions ∧ (storeRelay r x s).report = s.report ∧
      (AtFault (storeRelay r x s) ↔ AtFault s) := by
  refine ⟨?_, ?_, exists_congr fun q => ?_⟩
  · unfold storeRelay
    dsimp only
    rw [if_pos same]
    split <;> rfl
  · unfold storeRelay
    dsimp only
    rw [if_pos same]
    split <;> rfl
  · rw [storeRelay_relays]
    by_cases this : q = r
    · subst this
      rw [set_same, same]
    · rw [set_other _ _ this]

/-- A relay's record stored with another fault class makes RELAY_FAULT follow its source (R54). -/
theorem storeRelay_otherClass {s : State} {r : RelayIdx} {x : RelayRuntime}
    (other : faultClass (s.relays[r]).status ≠ faultClass x.status) :
    faultFlags (storeRelay r x s) = (s.conditions.enables, decide (0 < (storeRelay r x s).relaysAtFault),
      s.conditions.latched[cRelayFault] ||
        ((decide (0 < (storeRelay r x s).relaysAtFault) && !s.conditions.live[cRelayFault]) &&
          s.conditions.enables[cRelayFault])) := by
  have count : (storeRelay r x s).relaysAtFault = (s.setRelays (s.relays.set r x)).relaysAtFault := by
    unfold State.relaysAtFault
    rw [storeRelay_relays]
    rfl
  rw [count]
  unfold storeRelay
  dsimp only
  rw [if_neg other, faultFlags_makeKnown]
  split <;> rfl

theorem faultLive_storeRelay {s : State} (r : RelayIdx) (x : RelayRuntime) (h : FaultLive s) :
    FaultLive (storeRelay r x s) := by
  by_cases same : faultClass (s.relays[r]).status = faultClass x.status
  · obtain ⟨conditions, -, atFault⟩ := storeRelay_sameClass same
    unfold FaultLive at h ⊢
    rw [conditions, h]
    exact decide_eq_decide.2 (by rw [relaysAtFault_pos_iff, relaysAtFault_pos_iff, atFault])
  · exact congrArg (fun f => f.2.1) (storeRelay_otherClass same)

/-- A relay found normal, and stored as the pass has made it, leaves RELAY_FAULT latched exactly while live and enabled. -/
theorem faultLatched_storeRelay {s : State} {r : RelayIdx} {x : RelayRuntime}
    (normal : faultClass (s.relays[r]).status = .normal) (h : FaultLatched s) : FaultLatched (storeRelay r x s) := by
  by_cases same : faultClass (s.relays[r]).status = faultClass x.status
  · unfold FaultLatched
    rw [(storeRelay_sameClass same).1]
    exact h
  · have flags := storeRelay_otherClass same
    have fault : 0 < (storeRelay r x s).relaysAtFault := by
      rw [relaysAtFault_pos_iff]
      refine ⟨r, ?_⟩
      rw [storeRelay_relays, set_same, ← normal]
      exact Ne.symm same
    rw [decide_eq_true fault] at flags
    have enables : (storeRelay r x s).conditions.enables = s.conditions.enables := congrArg (fun f => f.1) flags
    have liveAfter : (storeRelay r x s).conditions.live[cRelayFault] = true := congrArg (fun f => f.2.1) flags
    have latched : (storeRelay r x s).conditions.latched[cRelayFault] = _ := congrArg (fun f => f.2.2) flags
    unfold FaultLatched at h ⊢
    rw [latched, enables, liveAfter, h]
    cases s.conditions.enables[cRelayFault] <;> cases s.conditions.live[cRelayFault] <;> rfl

theorem enables_storeRelay (r : RelayIdx) (x : RelayRuntime) (s : State) :
    (storeRelay r x s).conditions.enables = s.conditions.enables := by
  by_cases same : faultClass (s.relays[r]).status = faultClass x.status
  · rw [(storeRelay_sameClass same).1]
  · exact congrArg (fun f => f.1) (storeRelay_otherClass same)

end Sys2Proof.Proofs

namespace Sys2Proof.Proofs
open Sys2Proof Sys2Proof.Machine Sys2Proof.Laws

/-! ### The moment of a pass in flight (R58, R162, log 9) -/

section
variable (f : RelayIdx → RelayRuntime)

theorem foldl_storeRelay_sameClass {rs : List RelayIdx} (distinct : rs.Nodup) {u : State}
    (same : ∀ r ∈ rs, faultClass (u.relays[r]).status = faultClass (f r).status) :
    (rs.foldl (fun x r => storeRelay r (f r) x) u).conditions = u.conditions ∧
      (rs.foldl (fun x r => storeRelay r (f r) x) u).report = u.report := by
  induction rs generalizing u with
  | nil => exact ⟨rfl, rfl⟩
  | cons r rs ih =>
    obtain ⟨new, rest⟩ := List.nodup_cons.1 distinct
    obtain ⟨conditions, report, -⟩ := storeRelay_sameClass (same r List.mem_cons_self)
    have later : ∀ q ∈ rs, faultClass ((storeRelay r (f r) u).relays[q]).status = faultClass (f q).status := by
      intro q mem
      have other : q ≠ r := fun e => new (e ▸ mem)
      rw [storeRelay_relays, set_other _ _ other]
      exact same q (List.mem_cons_of_mem r mem)
    obtain ⟨conditions', report'⟩ := ih rest later
    exact ⟨conditions'.trans conditions, report'.trans report⟩

theorem foldl_storeRelay_faultLive (rs : List RelayIdx) {u : State} (h : FaultLive u) :
    FaultLive (rs.foldl (fun x r => storeRelay r (f r) x) u) :=
  List.foldlRecOn rs _ h fun _ hv r _ => faultLive_storeRelay r (f r) hv

theorem foldl_storeRelay_enables (rs : List RelayIdx) (u : State) :
    (rs.foldl (fun x r => storeRelay r (f r) x) u).conditions.enables = u.conditions.enables :=
  List.foldlRecOn (motive := fun v => v.conditions.enables = u.conditions.enables) rs _ rfl
    fun v hv r _ => (enables_storeRelay r (f r) v).trans hv

theorem foldl_storeRelay_faultLatched {rs : List RelayIdx} (distinct : rs.Nodup) {u : State}
    (normal : ∀ r ∈ rs, faultClass (u.relays[r]).status = .normal) (h : FaultLatched u) :
    FaultLatched (rs.foldl (fun x r => storeRelay r (f r) x) u) := by
  induction rs generalizing u with
  | nil => exact h
  | cons r rs ih =>
    obtain ⟨new, rest⟩ := List.nodup_cons.1 distinct
    refine ih rest (fun q mem => ?_) (faultLatched_storeRelay (normal r List.mem_cons_self) h)
    have other : q ≠ r := fun e => new (e ▸ mem)
    rw [storeRelay_relays, set_other _ _ other]
    exact normal q (List.mem_cons_of_mem r mem)

end

theorem relaysDone_nodup (p : PassInFlight) (s : State) (place : Nat) : (p.relaysDone s place).Nodup :=
  (List.nodup_finRange 768).filter _

theorem lt_of_mem_relaysDone {p : PassInFlight} {s : State} {place : Nat} {r : RelayIdx}
    (h : r ∈ p.relaysDone s place) : r.val < place :=
  of_decide_eq_true (Bool.and_eq_true_iff.1 (List.mem_filter.1 h).2).1

/-- The indications' results move neither RELAY_FAULT nor a relay. -/
theorem resultsReplayed_flags (p : PassInFlight) (place : Nat) (s : State) :
    faultFlags (resultsReplayed p place s) = faultFlags (relaysReplayed p place s) ∧
      (resultsReplayed p place s).relays = (relaysReplayed p place s).relays := by
  unfold resultsReplayed
  generalize relaysReplayed p place s = v
  exact List.foldlRecOn (motive := fun u => faultFlags u = faultFlags v ∧ u.relays = v.relays) _ _ ⟨rfl, rfl⟩
    fun u h _ _ => ⟨(faultFlags_storeIndication _ _ _ _ u).trans h.1, (storeIndication_relays _ _ _ _ u).trans h.2⟩

section
variable {s : State} {p : PassInFlight} {place : Nat}

theorem enables_of_flags {u v : State} (flags : faultFlags u = faultFlags v) :
    u.conditions.enables = v.conditions.enables := congrArg (fun f => f.1) flags

theorem faultLive_of_flags {u v : State} (flags : faultFlags u = faultFlags v) (relays : u.relays = v.relays)
    (h : FaultLive v) : FaultLive u := by
  have live : u.conditions.live[cRelayFault] = v.conditions.live[cRelayFault] := congrArg (fun f => f.2.1) flags
  unfold FaultLive State.relaysAtFault at h ⊢
  rw [live, relays, h]

theorem faultLatched_of_flags {u v : State} (flags : faultFlags u = faultFlags v) (h : FaultLatched v) :
    FaultLatched u := by
  have enables := enables_of_flags flags
  have live : u.conditions.live[cRelayFault] = v.conditions.live[cRelayFault] := congrArg (fun f => f.2.1) flags
  have latched : u.conditions.latched[cRelayFault] = v.conditions.latched[cRelayFault] := congrArg (fun f => f.2.2) flags
  unfold FaultLatched at h ⊢
  rw [latched, enables, live, h]

theorem resultsReplayed_faultLive (h : FaultLive (s.beforePass p)) : FaultLive (resultsReplayed p place s) := by
  obtain ⟨flags, relays⟩ := resultsReplayed_flags p place s
  refine faultLive_of_flags flags relays ?_
  unfold relaysReplayed
  exact foldl_storeRelay_faultLive (fun r => s.relays[r]) _ h

theorem resultsReplayed_enables :
    (resultsReplayed p place s).conditions.enables = p.conditions.enables := by
  rw [enables_of_flags (resultsReplayed_flags p place s).1]
  unfold relaysReplayed
  rw [foldl_storeRelay_enables fun r => s.relays[r]]
  rfl

theorem resultsReplayed_faultLatched (normal : ∀ r : RelayIdx, faultClass (p.relays[r]).status = .normal)
    (h : FaultLatched (s.beforePass p)) : FaultLatched (resultsReplayed p place s) := by
  refine faultLatched_of_flags (resultsReplayed_flags p place s).1 ?_
  unfold relaysReplayed
  exact foldl_storeRelay_faultLatched (fun r => s.relays[r]) (relaysDone_nodup p s place) (fun r _ => normal r) h

/-- A pass that has changed no fault class and no image entry before its place has moved neither queue nor conditions. -/
theorem resultsReplayed_quiet
    (relays : ∀ r : RelayIdx, r.val < place → faultClass (p.relays[r]).status = faultClass (s.relays[r]).status)
    (indications : ∀ i : IndicationIdx, 768 + i.val < place → p.indications[i] = s.indications[i]) :
    (resultsReplayed p place s).report = p.report ∧ (resultsReplayed p place s).conditions = p.conditions := by
  have none : p.indicationsDone s place = [] := by
    refine List.filter_eq_nil_iff.2 fun i _ changed => ?_
    obtain ⟨before, differs⟩ := Bool.and_eq_true_iff.1 changed
    exact bne_iff_ne.1 differs (indications i (of_decide_eq_true before))
  obtain ⟨conditions, report⟩ := foldl_storeRelay_sameClass (fun r => s.relays[r]) (relaysDone_nodup p s place)
    (u := s.beforePass p) fun r mem => relays r (lt_of_mem_relaysDone mem)
  unfold resultsReplayed relaysReplayed
  rw [none, List.foldl_nil]
  exact ⟨report.trans rfl, conditions.trans rfl⟩

end

/-! ### The state that a moment is, and what of it STATUS READ reads (R162) -/

/-- The parts that a pass's results move. -/
def resultParts : List Part := [.relays, .evaluator, .indications] ++ announceParts

theorem storeRelay_resultParts (r : RelayIdx) (x : RelayRuntime) (s : State) :
    s.changesOnly (storeRelay r x s) resultParts := by
  intro q; cases q <;> simp [Part.same, resultParts, announceParts]

theorem storeIndication_resultParts (report : Bool) (i : IndicationIdx) (code : Option Code) (t : Time) (s : State) :
    s.changesOnly (storeIndication report i code t s) resultParts := by
  intro q; cases q <;> simp [Part.same, resultParts, announceParts]

theorem resultsReplayed_changesOnly (p : PassInFlight) (place : Nat) (s : State) :
    (s.beforePass p).changesOnly (resultsReplayed p place s) resultParts := by
  have relays : (s.beforePass p).changesOnly (relaysReplayed p place s) resultParts := by
    unfold relaysReplayed
    exact foldl_changesOnly (fun u r => storeRelay_resultParts r _ u) _ _
  unfold resultsReplayed
  exact changesOnly_trans relays (foldl_changesOnly (fun u i => storeIndication_resultParts _ i _ _ u) _ _)

end Sys2Proof.Proofs

namespace Sys2Proof.Proofs
open Sys2Proof Sys2Proof.Machine Sys2Proof.Laws

/-! ### Counts and flags as STATUS READ reads them (R162, R165, R167) -/

theorem countP_toList {α : Type} {n : Nat} (v : Vector α n) (f : α → Bool) :
    v.toList.countP f = (List.finRange n).countP fun i => f v[i] := by
  have list : v.toList = (List.finRange n).map fun i => v[i] := by
    refine List.ext_getElem (by simp) fun k _ _ => ?_
    simp
  rw [list, List.countP_map]
  rfl

/-- Flag `i` of a byte of flags (R165). -/
theorem flagsByte_getLsbD (bs : List Bool) {i : Nat} (bound : i < 8) : (flagsByte bs).getLsbD i = bs.getD i false := by
  induction bs generalizing i with
  | nil => simp [flagsByte]
  | cons b bs ih =>
    have cons : flagsByte (b :: bs) = (flagsByte bs <<< 1) ||| flagByte b := rfl
    rw [cons, BitVec.getLsbD_or, BitVec.getLsbD_shiftLeft]
    cases i with
    | zero => cases b <;> simp [flagByte]
    | succ i =>
      have clear : (flagByte b).getLsbD (i + 1) = false := by
        cases b <;> simp [flagByte, BitVec.getLsbD_one]
      rw [clear, Bool.or_false]
      simp [bound, ih (Nat.lt_of_succ_lt bound)]

/-- Flag `n` of a condition set, in a payload that holds the set behind other bytes (R165, R167). -/
theorem conditionSet_getLsbD (before after : List Byte) (v : Vector Bool 11) (n : ConditionIdx) :
    (byteAt (before ++ conditionSetBytes v ++ after) (before.length + n.val / 8)).getLsbD (n.val % 8) = v[n] := by
  unfold byteAt
  rw [List.append_assoc, List.getD_append_right _ _ _ _ (Nat.le_add_right _ _), Nat.add_sub_cancel_left]
  by_cases low : n.val < 8
  · rw [Nat.div_eq_of_lt low, Nat.mod_eq_of_lt low]
    refine (flagsByte_getLsbD (v.toList.take 8) low).trans ?_
    simp [List.getD, low]
  · have high : n.val / 8 = 1 := by omega
    have bit : n.val % 8 = n.val - 8 := by omega
    have back : 8 + (n.val - 8) = n.val := by omega
    rw [high, bit]
    refine (flagsByte_getLsbD (v.toList.drop 8) (by omega)).trans ?_
    simp [List.getD, List.getElem?_drop, back]

theorem alarm_iff (s : State) : s.alarm = true ↔ ∃ n : ConditionIdx, s.conditions.latched[n] = true := by
  unfold State.alarm
  rw [List.any_eq_true]
  constructor
  · rintro ⟨b, mem, set⟩
    obtain ⟨k, bound, rfl⟩ := List.getElem_of_mem mem
    exact ⟨⟨k, by simpa using bound⟩, by simpa using set⟩
  · rintro ⟨n, latched⟩
    exact ⟨_, by simp [Vector.mem_toList_iff], latched⟩

/-! ### The moment that STATUS READ finds (R162, log 9) -/

/-- The Condition Unit builds its answer with a pass in flight at some place: the end, once a command has moved the queue or
the conditions. -/
theorem atStatus_of_pass {s : State} {p : PassInFlight} (pass : s.evaluator.pass = some p) :
    ∃ place, p.place ≤ place ∧ (s.asPassLeft p = false → passEnd ≤ place) ∧
      atStatus s = (s.setEvaluator { s.evaluator with pass := some { p with place := place } }).setChoices
        (s.choices + 1) := by
  unfold atStatus
  rw [pass]
  dsimp only
  rw [builtAt_of_pass _ s p pass]
  refine ⟨_, Nat.le_max_left _ _, fun moved => ?_, rfl⟩
  rw [moved]
  exact Nat.le_max_right _ _

theorem atStatus_of_no_pass {s : State} (pass : s.evaluator.pass = none) : atStatus s = s := by
  unfold atStatus; rw [pass]

/-- A state that differs from another in its desk link, its evaluators and the free choices taken. -/
def SameMoment (m' m : State) : Prop := ∃ l e c, m' = (setAside l e m).setChoices c

theorem momentAt_of_no_pass {s : State} (place : Nat) (pass : s.evaluator.pass = none) : s.momentAt place = s := by
  unfold State.momentAt; rw [pass]

theorem momentAt_of_pass {s : State} {p : PassInFlight} (place : Nat) (pass : s.evaluator.pass = some p) :
    s.momentAt place = if passEnd ≤ place then s else s.replay p place := by
  unfold State.momentAt; rw [pass]

theorem asPassLeft_setLink (s : State) (l : DeskLink) (p : PassInFlight) :
    (s.setLink l).asPassLeft p = s.asPassLeft p := by
  obtain ⟨e, replayed⟩ := replay_setAside p p.place passEnd l s.evaluator s.choices s
  have same : (s.setLink l).replay p passEnd = setAside l e (s.replay p passEnd) := replayed
  unfold State.asPassLeft
  rw [same]
  generalize s.replay p passEnd = t
  rfl

/-- The moment of STATUS READ's answer: the one at which the pass stands where the answer finds it. -/
theorem atStatus_moment (s : State) (l : DeskLink) :
    ∃ place, s.BuildsAt (atStatus (s.setLink l)) place ∧
      SameMoment ((atStatus (s.setLink l)).momentAt (atStatus (s.setLink l)).foundPlace) (s.momentAt place) ∧
      ∀ p, s.evaluator.pass = some p → s.asPassLeft p = false → passEnd ≤ place := by
  cases pass : s.evaluator.pass with
  | none =>
    have stays : atStatus (s.setLink l) = s.setLink l := atStatus_of_no_pass pass
    rw [stays]
    refine ⟨passEnd, ?_, ?_, nofun⟩
    · unfold State.BuildsAt
      rw [pass]
      exact ⟨rfl, rfl⟩
    · rw [momentAt_of_no_pass _ (show (s.setLink l).evaluator.pass = none from pass), momentAt_of_no_pass _ pass]
      exact ⟨l, s.evaluator, s.choices, rfl⟩
  | some p =>
    obtain ⟨place, further, moved, answered⟩ := atStatus_of_pass (s := s.setLink l) pass
    rw [asPassLeft_setLink] at moved
    have built : atStatus (s.setLink l) = (setAside l { s.evaluator with pass := some { p with place := place } } s).setChoices
        (s.choices + 1) := answered
    have found : (atStatus (s.setLink l)).evaluator.pass = some { p with place := place } := by rw [built]; rfl
    have foundPlace : (atStatus (s.setLink l)).foundPlace = place := by unfold State.foundPlace; rw [found]
    refine ⟨place, ?_, ?_, fun p' same => ?_⟩
    · unfold State.BuildsAt
      rw [pass, built]
      exact ⟨further, rfl, rfl⟩
    · rw [foundPlace, momentAt_of_pass place found, momentAt_of_pass place pass]
      split
      · rw [built]
        exact ⟨l, _, _, rfl⟩
      · rw [built]
        obtain ⟨e, replayed⟩ := replay_setAside p place place l
          { s.evaluator with pass := some { p with place := place } } (s.choices + 1) s
        rw [replayed]
        generalize s.replay p place = t
        exact ⟨l, e, t.choices, rfl⟩
    · obtain rfl := Option.some.inj same
      exact moved

theorem beforePass_frame (s : State) (p : PassInFlight) :
    (s.beforePass p).tables = s.tables ∧ (s.beforePass p).cards = s.cards := by
  simp [State.beforePass]

/-- A moment is of the part's own time, tables and cards. -/
theorem momentAt_frame (s : State) (place : Nat) :
    (s.momentAt place).time = s.time ∧ (s.momentAt place).tables = s.tables ∧ (s.momentAt place).cards = s.cards := by
  cases pass : s.evaluator.pass with
  | none => rw [momentAt_of_no_pass place pass]; exact ⟨rfl, rfl, rfl⟩
  | some p =>
    rw [momentAt_of_pass place pass]
    split
    · exact ⟨rfl, rfl, rfl⟩
    next within =>
      obtain ⟨tables, cards⟩ := beforePass_frame s p
      have frame := resultsReplayed_changesOnly p place s
      rw [replay_eq, if_neg within, setTime_tables, setTime_cards]
      exact ⟨setTime_time _ _, (frame .tables (by decide)).trans tables, (frame .cards (by decide)).trans cards⟩

theorem statusBody_of_sameMoment {m' m : State} (same : SameMoment m' m) : m'.statusBody = m.statusBody := by
  obtain ⟨l, e, c, rfl⟩ := same
  rfl

/-- The three condition sets with which the answer begins. -/
def conditionFlags (m : State) : List Byte :=
  conditionSetBytes m.conditions.live ++ conditionSetBytes m.conditions.latched ++ conditionSetBytes m.conditions.enables

theorem conditionFlags_spec (m : State) (n : ConditionIdx) :
    (byteAt (conditionFlags m) (n.val / 8)).getLsbD (n.val % 8) = m.conditions.live[n] ∧
      (byteAt (conditionFlags m) (2 + n.val / 8)).getLsbD (n.val % 8) = m.conditions.latched[n] ∧
      (byteAt (conditionFlags m) (4 + n.val / 8)).getLsbD (n.val % 8) = m.conditions.enables[n] := by
  have live := conditionSet_getLsbD []
    (conditionSetBytes m.conditions.latched ++ conditionSetBytes m.conditions.enables) m.conditions.live n
  have latched := conditionSet_getLsbD (conditionSetBytes m.conditions.live) (conditionSetBytes m.conditions.enables)
    m.conditions.latched n
  have enables := conditionSet_getLsbD (conditionSetBytes m.conditions.live ++ conditionSetBytes m.conditions.latched) []
    m.conditions.enables n
  rw [List.length_nil, Nat.zero_add] at live
  exact ⟨live, latched, enables⟩

/-- The body of STATUS READ's answer, item by item, at the moment of a place (R162, R167). -/
def statusItems (s : State) (place : Nat) : List Byte :=
  let m := s.momentAt place
  conditionFlags m ++ [if m.alarm then 1 else 0] ++ be32 s.time.counter ++
    [if s.time.valid then 1 else 0] ++ be16 (BitVec.ofNat 16 m.report.records.length) ++
    [if m.report.resyncNeeded then 1 else 0] ++ be16 m.report.refused ++
    [BitVec.ofNat 8 ((List.finRange 16).countP fun c =>
        (s.tables.active.cards[c]).enable && (s.cards[c]).state != .inService),
      BitVec.ofNat 8 ((List.finRange 16).countP fun c => (s.cards[c]).proving = .fail)] ++
    be16 (BitVec.ofNat 16 ((List.finRange 768).countP fun r =>
      faultClass (s.relayAt place r).status != .normal))

theorem momentAt_relaysAtFault (s : State) (place : Nat) : (s.momentAt place).relaysAtFault =
    (List.finRange 768).countP fun r => faultClass (s.relayAt place r).status != .normal := by
  unfold State.relaysAtFault
  rw [countP_toList]
  simp only [momentAt_relays]

theorem statusBody_momentAt (s : State) (place : Nat) : (s.momentAt place).statusBody = statusItems s place := by
  obtain ⟨time, tables, cards⟩ := momentAt_frame s place
  have down : (s.momentAt place).cardsDown = (List.finRange 16).countP fun c =>
      (s.tables.active.cards[c]).enable && (s.cards[c]).state != .inService := by
    unfold State.cardsDown
    rw [tables, cards]
  have failing : (s.momentAt place).cardsFailing = (List.finRange 16).countP fun c => (s.cards[c]).proving = .fail := by
    unfold State.cardsFailing
    rw [countP_toList, cards]
  unfold State.statusBody
  rw [down, failing, momentAt_relaysAtFault, time]
  rfl

end Sys2Proof.Proofs

namespace Sys2Proof.Proofs
open Sys2Proof Sys2Proof.Machine Sys2Proof.Laws

/-! ### The queue, the conditions and RELAY_FAULT at a place within a pass (R54, R158, R162) -/

section
variable {s : State} {p : PassInFlight} {place : Nat}

theorem momentAt_within (pass : s.evaluator.pass = some p) (within : place < 1280) :
    (s.momentAt place).conditions = (resultsReplayed p place s).conditions ∧
      (s.momentAt place).report = (resultsReplayed p place s).report ∧
      (s.momentAt place).relays = (resultsReplayed p place s).relays := by
  have inside : ¬passEnd ≤ place := Nat.not_le.2 within
  rw [momentAt_of_pass place pass, if_neg inside, replay_eq, if_neg inside]
  exact ⟨setTime_conditions _ _, setTime_report _ _, setTime_relays _ _⟩

theorem beforePass_results (s : State) (p : PassInFlight) :
    (s.beforePass p).conditions = p.conditions ∧ (s.beforePass p).relays = p.relays := by
  simp [State.beforePass]

/-- With RELAY_FAULT live as its relays had it before a pass, it is so before the pass's results are stored again. -/
theorem beforePass_faultLive (live : p.conditions.live[cRelayFault] =
    (List.finRange 768).any fun r => faultClass (p.relays[r]).status != .normal) : FaultLive (s.beforePass p) := by
  obtain ⟨conditions, relays⟩ := beforePass_results s p
  unfold FaultLive
  rw [conditions, live, Bool.eq_iff_iff, decide_eq_true_iff, relaysAtFault_pos_iff, AtFault, relays, List.any_eq_true]
  simp

theorem beforePass_clear (clear : p.conditions.live[cRelayFault] = false)
    (unlatched : p.conditions.latched[cRelayFault] = false) : FaultLatched (s.beforePass p) := by
  obtain ⟨conditions, -⟩ := beforePass_results s p
  unfold FaultLatched
  rw [conditions, clear, unlatched, Bool.and_false]

theorem normal_of_clear (live : p.conditions.live[cRelayFault] =
      (List.finRange 768).any fun r => faultClass (p.relays[r]).status != .normal)
    (clear : p.conditions.live[cRelayFault] = false) (r : RelayIdx) : faultClass (p.relays[r]).status = .normal := by
  rw [clear] at live
  simpa using List.any_eq_false.1 live.symm r (List.mem_finRange r)

/-- RELAY_FAULT at a moment within a pass: live exactly while a relay is at fault there; and where the pass began clear of
both, latched exactly while live and enabled. -/
theorem momentAt_fault (pass : s.evaluator.pass = some p) (within : place < 1280)
    (live : p.conditions.live[cRelayFault] =
      (List.finRange 768).any fun r => faultClass (p.relays[r]).status != .normal) :
    let m := s.momentAt place
    m.conditions.live[cRelayFault] = decide (0 < m.relaysAtFault) ∧
      (p.conditions.live[cRelayFault] = false → p.conditions.latched[cRelayFault] = false →
        m.conditions.latched[cRelayFault] = (p.conditions.enables[cRelayFault] && decide (0 < m.relaysAtFault))) := by
  obtain ⟨conditions, -, relays⟩ := momentAt_within pass within
  have follows : FaultLive (resultsReplayed p place s) := resultsReplayed_faultLive (beforePass_faultLive live)
  unfold FaultLive State.relaysAtFault at follows
  intro m
  unfold State.relaysAtFault
  rw [show m.conditions = _ from conditions, show m.relays = _ from relays, ← follows]
  refine ⟨rfl, fun clear unlatched => ?_⟩
  have latched : FaultLatched (resultsReplayed p place s) :=
    resultsReplayed_faultLatched (normal_of_clear live clear) (beforePass_clear clear unlatched)
  unfold FaultLatched at latched
  rw [latched, resultsReplayed_enables]

end

/-! ### IDENTIFY and STATUS READ served (R153, R162) -/

/-- A request of one of the two codes, without parameters, goes to its owner. -/
theorem handing_parameterless {q : Request} {code : Byte} (direct : q.broadcast = false) (payload : q.payload = [code])
    (known : code = 0x01#8 ∨ code = 0x41#8) : handing q = .toOwner ∧ hasCode code q = true := by
  have codes : q.code = code := by rw [Request.code, payload]; rfl
  refine ⟨?_, decide_eq_true codes⟩
  unfold handing
  rw [direct, codes, payload]
  rcases known with rfl | rfl <;> rfl

theorem identify_serves {s : State} {q : Request} (serves : s.Serves q) (payload : q.payload = [0x01#8]) :
    exec .identify s = .next (answer q .ok s.identifyBody (dropRequest s)) := by
  obtain ⟨owner, mine⟩ := handing_parameterless serves.direct payload (.inl rfl)
  obtain ⟨answered, -⟩ := answer_answered .ok s.identifyBody serves (u := dropRequest s) rfl
  exact congrArg Host.Outcome.next
    (serve_alone (act := actIdentify) serves.swap serves.alone owner mine answered.requests)

/-- The state in which STATUS READ's answer is built, and its body. -/
theorem statusRead_serves {s : State} {q : Request} (serves : s.Serves q) (payload : q.payload = [0x41#8]) :
    let u := atStatus (dropRequest s)
    exec .statusRead s = .next (answer q .ok (u.momentAt u.foundPlace).statusBody u) := by
  intro u
  obtain ⟨owner, mine⟩ := handing_parameterless serves.direct payload (.inr rfl)
  have link : u.link = (dropRequest s).link := atStatus_changesOnly _ .link (by decide)
  obtain ⟨answered, -⟩ := answer_answered .ok (u.momentAt u.foundPlace).statusBody serves link
  exact congrArg Host.Outcome.next
    (serve_alone (act := actStatusRead) serves.swap serves.alone owner mine answered.requests)

theorem buildsAt_of_same {s u t : State} {place : Nat} (h : s.BuildsAt u place) (evaluator : t.evaluator = u.evaluator)
    (choices : t.choices = u.choices) : s.BuildsAt t place := by
  unfold State.BuildsAt at h ⊢
  rwa [evaluator, choices]

/-- Settles O48: each request is answered by its owner alone; STATUS READ's items are those of one moment of the pass. -/
theorem identifyAndStatusRead : Obligations.IdentifyAndStatusRead := by
  intro s q serves
  refine ⟨fun payload => ?_, fun payload => ?_⟩
  · obtain ⟨answered, otherwise⟩ := answer_answered .ok s.identifyBody serves (u := dropRequest s) rfl
    exact ⟨_, identify_serves serves payload, otherwise,
      changesOnly_then (dropRequest_changesOnly s) (answer_changesOnly q .ok _ _), answered⟩
  · intro down failing
    have step := statusRead_serves serves payload
    obtain ⟨place, builds, same, complete⟩ := atStatus_moment s (dropRequest s).link
    have dropped : s.setLink (dropRequest s).link = dropRequest s := rfl
    rw [dropped] at builds same
    have frame := atStatus_changesOnly (dropRequest s)
    have body := (statusBody_of_sameMoment same).trans (statusBody_momentAt s place)
    dsimp only at step body
    rw [body] at step
    generalize atStatus (dropRequest s) = u at step builds frame
    have link : u.link = (dropRequest s).link := frame .link (by decide)
    obtain ⟨answered, otherwise⟩ := answer_answered .ok (statusItems s place) serves link
    have kept := answer_changesOnly q .ok (statusItems s place) u
    refine ⟨_, conditionFlags (s.momentAt place), place, step, otherwise,
      buildsAt_of_same builds (kept .evaluator (by decide)) (kept .choices (by decide)), ?_, rfl, ?_⟩
    · exact changesOnly_trans (changesOnly_mono _ (dropRequest_changesOnly s))
        (changesOnly_trans (changesOnly_mono _ frame) (changesOnly_mono _ kept))
    intro m atFault
    refine ⟨conditionFlags_spec m, ⟨m.alarm, alarm_iff m, answered⟩, ?_, momentAt_relays s place, fun p pass => ?_⟩
    · rintro (none | done)
      · exact momentAt_of_no_pass place none
      · cases pass : s.evaluator.pass with
        | none => exact momentAt_of_no_pass place pass
        | some p => exact (momentAt_of_pass place pass).trans (if_pos done)
    · intro faultAt
      refine ⟨complete p pass, fun within => ⟨fun relays indications => ?_, fun live => ?_⟩⟩
      · obtain ⟨conditions, report, -⟩ := momentAt_within pass within
        obtain ⟨report', conditions'⟩ := resultsReplayed_quiet relays indications
        exact ⟨report.trans report', conditions.trans conditions'⟩
      · have fault := momentAt_fault pass within live
        dsimp only at fault
        rwa [momentAt_relaysAtFault] at fault

end Sys2Proof.Proofs

namespace Sys2Proof.Proofs
open Sys2Proof Sys2Proof.Machine Sys2Proof.Laws

/-! ### An offer reaches a queue for which no CONDITION record waits (R98 to R102) -/

/-- With no CONDITION record waiting, an offer is the next that the queue takes. -/
theorem offer_of_none_waiting {o : Offer} {s : State} (none : s.conditions.waiting = []) : offer o s = queueTakes o s := by
  rw [offer, takeFreely_of_none_waiting s none]

/-- Taking an offer moves the Report Queue and the conditions alone. -/
theorem queueTakes_changesOnly (o : Offer) (s : State) : s.changesOnly (queueTakes o s) [.report, .conditions] := by
  intro p; cases p <;> simp [Part.same]

theorem queueTakes_coalesced {o : Offer} {s : State} (waits : ∃ r ∈ s.report.records, r.subject = o.subject) :
    queueTakes o s = s.setReport { s.report with
      records := s.report.records.map fun r => if r.subject = o.subject then coalesce s.time.valid o r else r } := by
  rcases takeOffer_cases s.time.valid o s.report with ⟨-, e⟩ | ⟨new, -⟩ | ⟨new, -⟩
  · unfold queueTakes
    rw [e]
  · obtain ⟨r, mem, same⟩ := waits; exact absurd same (new r mem)
  · obtain ⟨r, mem, same⟩ := waits; exact absurd same (new r mem)

/-- The append that brings the count to 193 makes REPORT_HIGH live, and a rise (R102). -/
theorem queueTakes_reaches_high {o : Offer} {s : State} (new : ∀ r ∈ s.report.records, r.subject ≠ o.subject)
    (reaches : s.report.records.length = 192) (low : s.report.high = false) :
    queueTakes o s =
      rise cReportHigh ((s.setReport (takeOffer s.time.valid o s.report).1).setLive cReportHigh true) := by
  have took := takeOffer_appended (valid := s.time.valid) new (by omega)
  unfold queueTakes
  rw [took]
  exact if_pos (by simp [reaches, low])

/-- A full queue refuses a new subject's offer, a REPORT_OVERFLOW event (R101). -/
theorem queueTakes_refused {o : Offer} {s : State} (new : ∀ r ∈ s.report.records, r.subject ≠ o.subject)
    (full : 256 ≤ s.report.records.length) :
    queueTakes o s =
      rise cReportOverflow (s.setReport { s.report with refused := raise s.report.refused, resyncNeeded := true }) := by
  rcases takeOffer_cases s.time.valid o s.report with ⟨⟨r, mem, same⟩, -⟩ | ⟨-, room, -⟩ | ⟨-, -, e⟩
  · exact absurd same (new r mem)
  · omega
  · unfold queueTakes
    rw [e]

@[simp] theorem rise_live (n : ConditionIdx) (s : State) : (rise n s).conditions.live = s.conditions.live := by
  unfold rise; split <;> rfl

/-- A rise leaves its condition latched where it is enabled (R158). -/
theorem rise_latches {n : ConditionIdx} {s : State} (enabled : s.conditions.enables[n] = true) : Latched n (rise n s) :=
  rise_latched (.inr ⟨rfl, enabled⟩)

/-- Settles O27: with nothing else to take, the queue coalesces the offer. -/
theorem offerForAWaitingSubjectIsCoalesced : Obligations.OfferForAWaitingSubjectIsCoalesced := by
  intro o s none waits
  rw [offer_of_none_waiting none, queueTakes_coalesced waits]
  have coalesced : ∀ r : ChangeRecord, coalesce s.time.valid o r =
      { subject := r.subject, value := o.value, firstTime := r.firstTime, lastTime := o.time
        count := min 255 (r.count + 1), timeValid := if s.time.valid then r.timeValid else false } := fun r => by
    cases s.time.valid <;> simp [coalesce, raiseTo]
  simp only [coalesced]

/-- Settles O28: the queue appends the offer while it has room, and refuses it when it is full. -/
theorem offerForANewSubjectIsAppendedOrRefused : Obligations.OfferForANewSubjectIsAppendedOrRefused := by
  intro o s none new q t
  have taken : t = queueTakes o s := offer_of_none_waiting none
  refine ⟨fun room => ⟨?_, fun reaches low => ?_⟩, fun full => ?_, ?_⟩
  · rw [taken, queueTakes_report, takeOffer_appended new room]
    have high : (s.report.high || decide (s.report.records.length + 1 = 193)) =
        if s.report.records.length = 192 then true else s.report.high := by
      by_cases reaches : s.report.records.length = 192 <;> simp [reaches]
    rw [high]
    rfl
  · rw [taken, queueTakes_reaches_high new reaches low]
    refine ⟨?_, fun enabled => rise_latches enabled⟩
    rw [rise_live]
    exact set_same ..
  · rw [taken, queueTakes_refused new full]
    exact ⟨rise_report _ _, rise_live _ _, fun enabled => rise_latches enabled⟩
  · rw [taken]
    exact queueTakes_changesOnly o s

end Sys2Proof.Proofs

namespace Sys2Proof.Proofs
open Sys2Proof Sys2Proof.Machine Sys2Proof.Laws

/-! ### One condition's flags while requests act on the others (R158 to R160) -/

/-- A property of the flags that the queue's taking of records keeps, and the acting on every condition but `n`. -/
structure FlagInvariant (n : ConditionIdx) (P : State → Prop) : Prop where
  reads : ∀ s t : State, t.conditions.enables = s.conditions.enables → t.conditions.live = s.conditions.live →
    t.conditions.latched = s.conditions.latched → P s → P t
  high : ∀ s, P s → P (s.setLive cReportHigh true)
  rises : ∀ m s, P s → P (rise m s)
  clears : ∀ m s, m ≠ n → P s → P (s.setLatched m false)

section
variable {n : ConditionIdx} {P : State → Prop} (inv : FlagInvariant n P)
include inv

theorem FlagInvariant.queueTakes {o : Offer} {s : State} (h : P s) : P (queueTakes o s) := by
  have queued : P (s.setReport (takeOffer s.time.valid o s.report).1) := inv.reads s _ rfl rfl rfl h
  unfold Machine.queueTakes
  dsimp only
  split
  · exact queued
  · split
    · exact inv.rises _ _ (inv.high _ queued)
    · exact queued
  · exact inv.rises _ _ queued

theorem FlagInvariant.takeSome (k : Nat) {s : State} (h : P s) : P (takeSome k s) := by
  induction k generalizing s with
  | zero => exact h
  | succ k ih =>
    refine ih ?_
    unfold takeWaiting
    split
    · exact inv.queueTakes (inv.reads s _ rfl rfl rfl h)
    · exact h

theorem FlagInvariant.takeFreely {s : State} (h : P s) : P (takeFreely s) := by
  unfold Machine.takeFreely
  split
  · exact h
  · exact inv.takeSome _ (inv.reads s _ rfl rfl rfl h)

theorem FlagInvariant.settle {s : State} (h : P s) : P (settle s) := inv.takeSome _ h

theorem FlagInvariant.enableCondition {m : ConditionIdx} (other : m ≠ n) (old : Vector Bool 11) {s : State} (h : P s) :
    P (enableCondition old s m) := by
  unfold Machine.enableCondition
  split
  · exact inv.takeFreely (inv.rises m s h)
  split
  · exact inv.clears m s other h
  · exact h

theorem FlagInvariant.ackCondition {m : ConditionIdx} (other : m ≠ n) (named : Vector Bool 11) {s : State} (h : P s) :
    P (ackCondition named s m) := by
  unfold Machine.ackCondition
  dsimp only
  split
  · split
    · exact inv.takeFreely (inv.rises m _ (inv.clears m s other h))
    · exact inv.clears m s other h
  · exact h

end

theorem rise_latched_other {n m : ConditionIdx} (other : n ≠ m) (s : State) :
    (rise m s).conditions.latched[n] = s.conditions.latched[n] := by
  unfold rise
  split
  · exact set_other _ _ other
  · rfl

theorem FlagInvariant.and {n : ConditionIdx} {P Q : State → Prop} (p : FlagInvariant n P) (q : FlagInvariant n Q) :
    FlagInvariant n fun s => P s ∧ Q s where
  reads s t enables live latched h := ⟨p.reads s t enables live latched h.1, q.reads s t enables live latched h.2⟩
  high s h := ⟨p.high s h.1, q.high s h.2⟩
  rises m s h := ⟨p.rises m s h.1, q.rises m s h.2⟩
  clears m s other h := ⟨p.clears m s other h.1, q.clears m s other h.2⟩

def Enabled (n : ConditionIdx) (s : State) : Prop := s.conditions.enables[n] = true

def Live (n : ConditionIdx) (s : State) : Prop := s.conditions.live[n] = true

/-- The condition is not enabled, and its latch is as given. -/
def Disabled (n : ConditionIdx) (latched : Bool) (s : State) : Prop :=
  s.conditions.enables[n] = false ∧ s.conditions.latched[n] = latched

theorem enabled_invariant (n : ConditionIdx) : FlagInvariant n (Enabled n) where
  reads s t enables _ _ h := by unfold Enabled at h ⊢; rwa [enables]
  high _ h := h
  rises m s h := by unfold Enabled at h ⊢; rwa [rise_enables]
  clears _ _ _ h := h

/-- No live value falls while records are taken and latches move. -/
theorem live_invariant (n : ConditionIdx) : FlagInvariant n (Live n) where
  reads s t _ live _ h := by unfold Live at h ⊢; rwa [live]
  high s h := by
    show (s.conditions.live.set cReportHigh true)[n] = true
    by_cases same : n = cReportHigh
    · rw [same]; exact set_same ..
    · rw [set_other _ _ same]; exact h
  rises m s h := by unfold Live at h ⊢; rwa [rise_live]
  clears _ _ _ h := h

theorem latched_invariant (n : ConditionIdx) : FlagInvariant n (Latched n) where
  reads s t _ _ latched h := by unfold Latched at h ⊢; rwa [latched]
  high _ h := h
  rises _ _ h := rise_latched (.inl h)
  clears m s other h := (set_other _ _ other.symm).trans h

/-- A condition that is not enabled does not latch. -/
theorem disabled_invariant (n : ConditionIdx) (latched : Bool) : FlagInvariant n (Disabled n latched) where
  reads s t enables _ latched h := ⟨by rw [enables]; exact h.1, by rw [latched]; exact h.2⟩
  high _ h := h
  rises m s h := by
    refine ⟨by rw [rise_enables]; exact h.1, ?_⟩
    by_cases same : n = m
    · subst same
      rw [rise, State.canLatch, h.1, Bool.false_and, if_neg Bool.false_ne_true]
      exact h.2
    · rw [rise_latched_other same]
      exact h.2
  clears m s other h := ⟨h.1, (set_other _ _ other.symm).trans h.2⟩

/-- What each step but that of `n` keeps, and the step of `n` turns into what each other step keeps, a run over a list
with `n` turns so. -/
theorem foldl_reaches {α : Type} {f : State → α → State} {I J : State → Prop} {n : α}
    (before : ∀ s m, m ≠ n → I s → I (f s m)) (turn : ∀ s, I s → J (f s n))
    (after : ∀ s m, m ≠ n → J s → J (f s m)) {ns : List α} (distinct : ns.Nodup) (mem : n ∈ ns) {s : State} (h : I s) :
    J (ns.foldl f s) := by
  induction ns generalizing s with
  | nil => exact absurd mem List.not_mem_nil
  | cons m ns ih =>
    obtain ⟨new, rest⟩ := List.nodup_cons.1 distinct
    by_cases this : m = n
    · subst this
      exact List.foldlRecOn ns f (turn s h) fun u hu k hk => after u k (fun e => new (e ▸ hk)) hu
    · exact ih rest ((List.mem_cons.1 mem).resolve_left (Ne.symm this)) (before s m this h)

/-! ### What the two requests leave, whatever room the queue has (R159, R160) -/

theorem takeFreely_enables (s : State) : (takeFreely s).conditions.enables = s.conditions.enables := by
  unfold takeFreely
  split
  · rfl
  · exact takeSome_enables _ _

theorem replaceEnables_enables (enables : Vector Bool 11) (s : State) :
    (replaceEnables enables s).conditions.enables = enables := by
  refine (takeSome_enables _ _).trans
    (List.foldlRecOn (motive := fun u : State => u.conditions.enables = enables) _ _ rfl fun u h n _ => ?_)
  unfold enableCondition
  split
  · exact (takeFreely_enables _).trans ((rise_enables n u).trans h)
  split <;> exact h

theorem acknowledge_enables (named : Vector Bool 11) (s : State) :
    (acknowledge named s).conditions.enables = s.conditions.enables := by
  refine (takeSome_enables _ _).trans
    (List.foldlRecOn (motive := fun u : State => u.conditions.enables = s.conditions.enables) _ _ rfl fun u h n _ => ?_)
  unfold ackCondition
  dsimp only
  split
  · split
    · exact (takeFreely_enables _).trans ((rise_enables n _).trans h)
    · exact h
  · exact h

section
variable {n : ConditionIdx} {I J : State → Prop} (kept : FlagInvariant n I) (reached : FlagInvariant n J)
include kept reached

/-- What condition `n`'s own turn brings about, the whole of CONDITION ENABLE leaves. -/
theorem replaceEnables_reaches {enables : Vector Bool 11} {s : State}
    (h : I (s.setConditions { s.conditions with enables := enables }))
    (turn : ∀ u, I u → J (enableCondition s.conditions.enables u n)) : J (replaceEnables enables s) :=
  reached.settle (foldl_reaches (fun _ _ other => kept.enableCondition other _) turn
    (fun _ _ other => reached.enableCondition other _) (List.nodup_finRange 11) (List.mem_finRange n) h)

/-- What condition `n`'s own turn brings about, the whole of CONDITION ACK leaves. -/
theorem acknowledge_reaches {named : Vector Bool 11} {s : State} (h : I s)
    (turn : ∀ u, I u → J (ackCondition named u n)) : J (acknowledge named s) :=
  reached.settle (foldl_reaches (fun _ _ other => kept.ackCondition other _) turn
    (fun _ _ other => reached.ackCondition other _) (List.nodup_finRange 11) (List.mem_finRange n) h)

end

/-- A condition that is no longer enabled, or never was, ends unlatched. -/
theorem replaceEnables_disabled {enables : Vector Bool 11} {s : State} {n : ConditionIdx} (off : enables[n] = false)
    (lawful : s.conditions.latched[n] = true → s.conditions.enables[n] = true) :
    (replaceEnables enables s).conditions.latched[n] = false := by
  refine (replaceEnables_reaches (disabled_invariant n s.conditions.latched[n]) (disabled_invariant n false)
    ⟨off, rfl⟩ fun u hu => ?_).2
  obtain ⟨disabled, latched⟩ := hu
  unfold enableCondition
  rw [disabled, Bool.and_false, Bool.false_and, if_neg Bool.false_ne_true, Bool.not_false, Bool.and_true]
  split
  · exact ⟨disabled, set_same ..⟩
  next wasOff => exact ⟨disabled, latched.trans (Bool.eq_false_iff.2 fun held => wasOff (lawful held))⟩

/-- A condition newly enabled while it is live ends latched, and so does one that stays enabled and is latched. -/
theorem replaceEnables_latched {enables : Vector Bool 11} {s : State} {n : ConditionIdx} (on : enables[n] = true)
    (latch : (if s.conditions.enables[n] then s.conditions.latched[n] else s.conditions.live[n]) = true) :
    Latched n (replaceEnables enables s) := by
  by_cases was : s.conditions.enables[n] = true
  · rw [if_pos was] at latch
    have stays := (enabled_invariant n).and (latched_invariant n)
    refine (replaceEnables_reaches stays stays ⟨on, latch⟩ fun u hu => ?_).2
    unfold enableCondition
    rw [was, hu.1]
    exact hu
  · rw [if_neg was] at latch
    refine replaceEnables_reaches ((enabled_invariant n).and (live_invariant n)) (latched_invariant n) ⟨on, latch⟩
      fun u hu => ?_
    unfold enableCondition
    rw [Bool.eq_false_iff.2 was, hu.1, hu.2]
    exact takeFreely_latched (rise_latches hu.1)

/-- A named condition that is enabled and live ends latched, and one not named keeps its latch. -/
theorem acknowledge_latched {named : Vector Bool 11} {s : State} {n : ConditionIdx}
    (latch : (if named[n] then s.conditions.enables[n] && s.conditions.live[n] else s.conditions.latched[n]) = true) :
    Latched n (acknowledge named s) := by
  by_cases this : named[n] = true
  · rw [if_pos this, Bool.and_eq_true] at latch
    refine acknowledge_reaches ((enabled_invariant n).and (live_invariant n)) (latched_invariant n) latch fun u hu => ?_
    obtain ⟨enabled, live⟩ := hu
    have stillLive : (u.setLatched n false).conditions.live[n] = true := live
    unfold ackCondition
    dsimp only
    rw [if_pos this, if_pos stillLive]
    exact takeFreely_latched (rise_latches enabled)
  · rw [if_neg this] at latch
    refine acknowledge_reaches (latched_invariant n) (latched_invariant n) latch fun u hu => ?_
    unfold ackCondition
    rw [if_neg this]
    exact hu

end Sys2Proof.Proofs

namespace Sys2Proof.Proofs
open Sys2Proof Sys2Proof.Machine Sys2Proof.Laws

/-! ### A queue with room takes CONDITION records and moves no flag (R98 to R102) -/

/-- A record of the queue carries the offer's value and, as its last time, its time. -/
def Carries (q : ReportQueue) (o : Offer) : Prop :=
  ∃ r ∈ q.records, r.subject = o.subject ∧ r.value = o.value ∧ r.lastTime = o.time

theorem takeOffer_carries (valid : Bool) (o : Offer) {q : ReportQueue} (room : q.records.length < 256) :
    Carries (takeOffer valid o q).1 o := by
  rcases takeOffer_cases valid o q with ⟨⟨r, mem, same⟩, e⟩ | ⟨-, -, e⟩ | ⟨-, full, -⟩
  · rw [e]
    exact ⟨coalesce valid o r, List.mem_map.2 ⟨r, mem, if_pos same⟩, same, rfl, rfl⟩
  · rw [e]
    exact ⟨newRecord valid o, List.mem_append_right _ (List.mem_singleton.2 rfl), rfl, rfl, rfl⟩
  · omega

/-- An offer of another subject leaves the record. -/
theorem takeOffer_still_carries {valid : Bool} {o o' : Offer} {q : ReportQueue} (other : o.subject ≠ o'.subject)
    (h : Carries q o') : Carries (takeOffer valid o q).1 o' := by
  obtain ⟨r, mem, subject, rest⟩ := h
  have filtered : r ∈ q.records.filter fun r => r.subject = o'.subject :=
    List.mem_filter.2 ⟨mem, decide_eq_true subject⟩
  rw [← takeOffer_other other valid q] at filtered
  exact ⟨r, (List.mem_filter.1 filtered).1, subject, rest⟩

theorem takeOffer_length_le (valid : Bool) (o : Offer) (q : ReportQueue) :
    (takeOffer valid o q).1.records.length ≤ q.records.length + 1 := by
  rcases takeOffer_cases valid o q with ⟨-, e⟩ | ⟨-, -, e⟩ | ⟨-, -, e⟩ <;> simp [e]

/-- Below the threshold of REPORT_HIGH an offer brings no rise. -/
theorem queueTakes_below {o : Offer} {s : State} (below : s.report.records.length < 192) :
    queueTakes o s = s.setReport (takeOffer s.time.valid o s.report).1 := by
  rcases takeOffer_cases s.time.valid o s.report with ⟨waits, e⟩ | ⟨new, -, e⟩ | ⟨-, full, -⟩
  · rw [queueTakes_coalesced waits, e]
  · rw [queueTakes_appended new below, e, decide_eq_false (by omega), Bool.or_false]
  · omega

/-- The CONDITION record of condition `n` waits to be taken, or stands in the queue. -/
def Announced (n : ConditionIdx) (s : State) : Prop :=
  s.conditionOffer n ∈ s.conditions.waiting ∨ Carries s.report (s.conditionOffer n)

/-- Only CONDITION records of the present time wait, and the queue has room for them and for `k` more. -/
structure Room (k : Nat) (s : State) : Prop where
  load : s.report.records.length + s.conditions.waiting.length + k ≤ 192
  offers : ∀ o ∈ s.conditions.waiting, ∃ m, o = s.conditionOffer m

/-- From `s` to `t` no live value moved, no enable, and no latch but those of the conditions `acted`; every CONDITION record
announced still is; and there is room for `k` more. -/
structure Quiet (acted : List ConditionIdx) (k : Nat) (s t : State) : Prop where
  time : t.time = s.time
  enables : t.conditions.enables = s.conditions.enables
  live : t.conditions.live = s.conditions.live
  latched : ∀ n, n ∉ acted → t.conditions.latched[n] = s.conditions.latched[n]
  announced : ∀ n, Announced n s → Announced n t
  room : Room k t

theorem conditionOffer_time {s t : State} (time : t.time = s.time) (n : ConditionIdx) :
    t.conditionOffer n = s.conditionOffer n := by
  rw [State.conditionOffer, State.conditionOffer, time]

theorem Room.mono {j k : Nat} {s : State} (h : Room k s) (le : j ≤ k) : Room j s where
  load := (Nat.add_le_add_left le _).trans h.load
  offers := h.offers

theorem Quiet.trans {acted : List ConditionIdx} {j k : Nat} {s u t : State} (h : Quiet acted j s u)
    (h' : Quiet acted k u t) : Quiet acted k s t where
  time := h'.time.trans h.time
  enables := h'.enables.trans h.enables
  live := h'.live.trans h.live
  latched n away := (h'.latched n away).trans (h.latched n away)
  announced n a := h'.announced n (h.announced n a)
  room := h'.room

theorem Quiet.mono {acted more : List ConditionIdx} {k : Nat} {s t : State} (h : Quiet acted k s t)
    (sub : acted ⊆ more) : Quiet more k s t :=
  { h with latched := fun n away => h.latched n fun mem => away (sub mem) }

theorem Room.quiet {k : Nat} {s : State} (room : Room k s) : Quiet [] k s s :=
  ⟨rfl, rfl, rfl, fun _ _ => rfl, fun _ a => a, room⟩

/-- The oldest CONDITION record that waits is taken. -/
theorem takeWaiting_quiet {k : Nat} {s : State} (room : Room k s) :
    Quiet [] k s (takeWaiting s) ∧ (takeWaiting s).conditions.waiting = s.conditions.waiting.tail := by
  cases waiting : s.conditions.waiting with
  | nil =>
    have stays : takeWaiting s = s := by unfold takeWaiting; rw [waiting]
    rw [stays]
    exact ⟨room.quiet, waiting⟩
  | cons o rest =>
    obtain ⟨load, offers⟩ := room
    rw [waiting] at load offers
    rw [List.length_cons] at load
    obtain ⟨m, rfl⟩ := offers o List.mem_cons_self
    have takes : takeWaiting s = (s.setWaiting rest).setReport (takeOffer s.time.valid (s.conditionOffer m) s.report).1 := by
      unfold takeWaiting
      rw [waiting]
      exact queueTakes_below (s := s.setWaiting rest) (by rw [setWaiting_report]; omega)
    have carries := takeOffer_carries s.time.valid (s.conditionOffer m) (q := s.report) (by omega)
    have longer := takeOffer_length_le s.time.valid (s.conditionOffer m) s.report
    rw [takes]
    refine ⟨⟨rfl, rfl, rfl, fun _ _ => rfl, fun n announced => ?_, ?_,
      fun o mem => offers o (List.mem_cons_of_mem _ mem)⟩, rfl⟩
    · show s.conditionOffer n ∈ rest ∨ Carries _ (s.conditionOffer n)
      by_cases same : n = m
      · rw [same]; exact .inr carries
      have other : (s.conditionOffer m).subject ≠ (s.conditionOffer n).subject :=
        fun e => same (Subject.condition.inj e).symm
      refine announced.imp (fun mem => ?_) (takeOffer_still_carries other)
      rw [waiting] at mem
      exact (List.mem_cons.1 mem).resolve_left fun e => other (congrArg Offer.subject e.symm)
    · show (takeOffer s.time.valid (s.conditionOffer m) s.report).1.records.length + rest.length + k ≤ 192
      omega

theorem takeSome_quiet (j : Nat) {k : Nat} {s : State} (room : Room k s) :
    Quiet [] k s (takeSome j s) ∧ (takeSome j s).conditions.waiting = s.conditions.waiting.drop j := by
  induction j generalizing s with
  | zero => exact ⟨room.quiet, rfl⟩
  | succ j ih =>
    obtain ⟨first, left⟩ := takeWaiting_quiet room
    obtain ⟨later, drained⟩ := ih first.room
    exact ⟨first.trans later, drained.trans (by rw [left, List.drop_tail])⟩

theorem takeFreely_quiet {k : Nat} {s : State} (room : Room k s) : Quiet [] k s (takeFreely s) := by
  unfold takeFreely
  split
  · exact room.quiet
  · have counted : Quiet [] k s (s.setChoices (s.choices + 1)) :=
      ⟨rfl, rfl, rfl, fun _ _ => rfl, fun _ a => a, room.load, room.offers⟩
    exact counted.trans (takeSome_quiet _ counted.room).1

/-- At the end of a step's offers every CONDITION record announced stands in the queue. -/
theorem settle_quiet {k : Nat} {s : State} (room : Room k s) :
    Quiet [] k s (settle s) ∧ ∀ n, Announced n s → Carries (settle s).report (s.conditionOffer n) := by
  obtain ⟨quiet, drained⟩ := takeSome_quiet (s.conditions.waiting.length + 2) room
  refine ⟨quiet, fun n announced => ?_⟩
  have still := quiet.announced n announced
  rw [Announced, drained, List.drop_eq_nil_of_le (Nat.le_add_right _ 2), conditionOffer_time quiet.time] at still
  exact still.resolve_left List.not_mem_nil

/-! ### A condition is acted on while the queue has room (R158 to R160) -/

theorem setLatched_quiet (n : ConditionIdx) (b : Bool) {k : Nat} {s : State} (room : Room k s) :
    Quiet [n] k s (s.setLatched n b) :=
  ⟨rfl, rfl, rfl, fun _ other => set_other _ _ fun e => other (List.mem_singleton.2 e), fun _ a => a,
    room.load, room.offers⟩

/-- A rise brings at most one CONDITION record to those that wait. -/
theorem rise_quiet (n : ConditionIdx) {k : Nat} {s : State} (room : Room (k + 1) s) : Quiet [n] k s (rise n s) := by
  have offers := conditionOffer_time (rise_time n s)
  refine ⟨rise_time n s, rise_enables n s, rise_live n s, fun _ other => rise_latched_other (by simpa using other) s,
    fun _ announced => ?_, ?_, ?_⟩
  · rw [Announced, offers, rise_waiting, rise_report]
    refine announced.imp_left fun mem => ?_
    split
    · exact List.mem_append_left _ mem
    · exact mem
  · have load := room.load
    rw [rise_waiting, rise_report]
    split
    · rw [List.length_append, List.length_singleton]; omega
    · omega
  · simp only [offers, rise_waiting]
    split
    · intro o mem
      rcases List.mem_append.1 mem with old | new
      · exact room.offers o old
      · exact ⟨n, List.mem_singleton.1 new⟩
    · exact room.offers

/-- A condition rises, and the queue takes what it takes. -/
theorem rise_taken_quiet (n : ConditionIdx) {k : Nat} {s : State} (room : Room (k + 1) s) :
    Quiet [n] k s (takeFreely (rise n s)) :=
  (rise_quiet n room).trans ((takeFreely_quiet (rise_quiet n room).room).mono (List.nil_subset _))

/-- A condition that was not latched is, after its rise, latched exactly if it is enabled, and then announced. -/
theorem rise_taken {n : ConditionIdx} {k : Nat} {s : State} (room : Room (k + 1) s)
    (fresh : s.conditions.latched[n] = false) :
    (takeFreely (rise n s)).conditions.latched[n] = s.conditions.enables[n] ∧
      (s.conditions.enables[n] = true → Announced n (takeFreely (rise n s))) := by
  have taken := takeFreely_quiet (rise_quiet n room).room
  have risen := rise_risen fresh
  refine ⟨?_, fun enabled => taken.announced n (.inl ?_)⟩
  · rw [taken.latched n List.not_mem_nil, risen.latched, fresh]
    simp
  · rw [risen.waiting, conditionOffer_time (rise_time n s)]
    exact List.mem_append_right _ (List.mem_map_of_mem (List.mem_filter.2 ⟨List.mem_singleton.2 rfl, enabled⟩))

theorem enableCondition_quiet (old : Vector Bool 11) (n : ConditionIdx) {k : Nat} {s : State} (room : Room (k + 1) s) :
    Quiet [n] k s (enableCondition old s n) := by
  have less := room.mono (Nat.le_succ k)
  unfold enableCondition
  split
  · exact rise_taken_quiet n room
  split
  · exact setLatched_quiet n false less
  · exact less.quiet.mono (List.nil_subset _)

theorem ackCondition_quiet (named : Vector Bool 11) (n : ConditionIdx) {k : Nat} {s : State} (room : Room (k + 1) s) :
    Quiet [n] k s (ackCondition named s n) := by
  have less := room.mono (Nat.le_succ k)
  unfold ackCondition
  dsimp only
  split
  · split
    · have cleared := setLatched_quiet n false room
      exact cleared.trans (rise_taken_quiet n cleared.room)
    · exact setLatched_quiet n false less
  · exact less.quiet.mono (List.nil_subset _)

/-- What CONDITION ENABLE makes of the latch and the record of the condition whose turn it is. -/
theorem enableCondition_own {old : Vector Bool 11} {n : ConditionIdx} {k : Nat} {s : State} (room : Room (k + 1) s)
    (lawful : s.conditions.latched[n] = true → old[n] = true) :
    (enableCondition old s n).conditions.latched[n] =
        (s.conditions.enables[n] && if old[n] then s.conditions.latched[n] else s.conditions.live[n]) ∧
      ((s.conditions.enables[n] && !old[n] && s.conditions.live[n]) = true →
        Announced n (enableCondition old s n)) := by
  unfold enableCondition
  cases was : old[n] with
  | true =>
    cases on : s.conditions.enables[n] with
    | true => exact ⟨rfl, nofun⟩
    | false => exact ⟨set_same .., nofun⟩
  | false =>
    have fresh : s.conditions.latched[n] = false := Bool.eq_false_iff.2 fun held => by
      rw [lawful held] at was; exact nomatch was
    cases on : s.conditions.enables[n] with
    | false => exact ⟨fresh, nofun⟩
    | true =>
      cases live : s.conditions.live[n] with
      | false => exact ⟨fresh, nofun⟩
      | true =>
        obtain ⟨latched, announced⟩ := rise_taken room fresh
        exact ⟨latched.trans on, fun _ => announced on⟩

/-- What CONDITION ACK makes of the latch and the record of the condition whose turn it is. -/
theorem ackCondition_own {named : Vector Bool 11} {n : ConditionIdx} {k : Nat} {s : State} (room : Room (k + 1) s) :
    (ackCondition named s n).conditions.latched[n] =
        (if named[n] then s.conditions.enables[n] && s.conditions.live[n] else s.conditions.latched[n]) ∧
      ((named[n] && s.conditions.enables[n] && s.conditions.live[n]) = true → Announced n (ackCondition named s n)) := by
  have cleared : (s.setLatched n false).conditions.latched[n] = false := set_same ..
  have same : (s.setLatched n false).conditions.live[n] = s.conditions.live[n] := rfl
  unfold ackCondition
  dsimp only
  rw [same]
  cases named[n] with
  | false => exact ⟨rfl, nofun⟩
  | true =>
    cases live : s.conditions.live[n] with
    | false => exact ⟨by rw [Bool.and_false]; exact cleared, fun h => by simp at h⟩
    | true =>
      obtain ⟨latched, announced⟩ := rise_taken (setLatched_quiet n false room).room cleared
      exact ⟨by rw [Bool.and_true]; exact latched, fun h => announced (by rwa [Bool.true_and, Bool.and_true] at h)⟩

section
variable {f : State → ConditionIdx → State}
  (acts : ∀ n {k : Nat} {s : State}, Room (k + 1) s → Quiet [n] k s (f s n))
include acts

theorem foldl_quiet (ns : List ConditionIdx) {k : Nat} {s : State} (room : Room (k + ns.length) s) :
    Quiet ns k s (ns.foldl f s) := by
  induction ns generalizing s with
  | nil => exact room.quiet
  | cons n ns ih =>
    have first : Quiet [n] (k + ns.length) s (f s n) := acts n room
    have one : [n] ⊆ n :: ns := List.cons_subset_cons n (List.nil_subset ns)
    exact (first.mono one).trans ((ih first.room).mono (List.subset_cons_self n ns))

/-- With room for a record of each condition, each is acted on with its flags as they stood at first, and what its own turn
leaves of its latch and its record is what the whole leaves. -/
theorem settle_foldl_at {s : State} (room : Room 11 s) (n : ConditionIdx) :
    let t := settle ((List.finRange 11).foldl f s)
    t.conditions.live = s.conditions.live ∧
      ∃ k u, Room (k + 1) u ∧ u.conditions.enables = s.conditions.enables ∧ u.conditions.live = s.conditions.live ∧
        u.conditions.latched[n] = s.conditions.latched[n] ∧ t.conditions.latched[n] = (f u n).conditions.latched[n] ∧
        (Announced n (f u n) → Carries t.report (s.conditionOffer n)) := by
  intro t
  have whole := foldl_quiet acts (List.finRange 11) (k := 0) (by simpa using room)
  obtain ⟨settled, stands⟩ := settle_quiet whole.room
  refine ⟨settled.live.trans whole.live, ?_⟩
  obtain ⟨before, after, parts⟩ := List.append_of_mem (List.mem_finRange n)
  have distinct := List.nodup_finRange 11
  rw [parts] at distinct
  obtain ⟨-, later, apart⟩ := List.nodup_append.1 distinct
  have count : before.length + (after.length + 1) = 11 := by
    rw [← List.length_cons (a := n), ← List.length_append, ← parts, List.length_finRange]
  have earlier := foldl_quiet acts before (k := after.length + 1) (s := s) (by rw [Nat.add_comm, count]; exact room)
  generalize reached : before.foldl f s = u at earlier
  have turn : Quiet [n] after.length u (f u n) := acts n earlier.room
  have rest := foldl_quiet acts after (k := 0) (s := f u n) (by rw [Nat.zero_add]; exact turn.room)
  have run : (List.finRange 11).foldl f s = after.foldl f (f u n) := by
    rw [parts, List.foldl_append, reached, List.foldl_cons]
  refine ⟨after.length, u, earlier.room, earlier.enables, earlier.live,
    earlier.latched n fun mem => apart n mem n List.mem_cons_self rfl, ?_, fun announced => ?_⟩
  · rw [settled.latched n List.not_mem_nil, run]
    exact rest.latched n (List.nodup_cons.1 later).1
  · rw [← conditionOffer_time whole.time]
    exact stands n (run ▸ rest.announced n announced)

end

/-! ### What the two requests leave in a queue with room (R159, R160) -/

theorem room_of_short {s : State} (none : s.conditions.waiting = []) (short : s.report.records.length ≤ 181) :
    Room 11 s :=
  ⟨by rw [none, List.length_nil]; omega, by simp [none]⟩

/-- Each condition's latch, live value and record after CONDITION ENABLE. -/
theorem replaceEnables_quietly {s : State} (none : s.conditions.waiting = []) (short : s.report.records.length ≤ 181)
    (enables : Vector Bool 11) {n : ConditionIdx}
    (lawful : s.conditions.latched[n] = true → s.conditions.enables[n] = true) :
    let t := replaceEnables enables s
    t.conditions.latched[n] =
        (enables[n] && if s.conditions.enables[n] then s.conditions.latched[n] else s.conditions.live[n]) ∧
      t.conditions.live = s.conditions.live ∧
      ((enables[n] && !s.conditions.enables[n] && s.conditions.live[n]) = true →
        Carries t.report (s.conditionOffer n)) := by
  intro t
  obtain ⟨live, k, u, room, enabled, lives, latched, ends, carries⟩ := settle_foldl_at
    (enableCondition_quiet s.conditions.enables) (s := s.setConditions { s.conditions with enables := enables })
    (room_of_short none short) n
  have own : u.conditions.enables[n] = enables[n] := by rw [enabled]; rfl
  have level : u.conditions.live[n] = s.conditions.live[n] := by rw [lives]; rfl
  have latch : u.conditions.latched[n] = s.conditions.latched[n] := latched
  have turn := enableCondition_own (old := s.conditions.enables) room (by rwa [latch])
  rw [own, level, latch] at turn
  exact ⟨ends.trans turn.1, live, fun renewed => carries (turn.2 renewed)⟩

/-- Each condition's latch, live value and record after CONDITION ACK. -/
theorem acknowledge_quietly {s : State} (none : s.conditions.waiting = []) (short : s.report.records.length ≤ 181)
    (named : Vector Bool 11) (n : ConditionIdx) :
    let t := acknowledge named s
    t.conditions.latched[n] =
        (if named[n] then s.conditions.enables[n] && s.conditions.live[n] else s.conditions.latched[n]) ∧
      t.conditions.live = s.conditions.live ∧
      ((named[n] && s.conditions.enables[n] && s.conditions.live[n]) = true →
        Carries t.report (s.conditionOffer n)) := by
  intro t
  obtain ⟨live, k, u, room, enabled, lives, latched, ends, carries⟩ :=
    settle_foldl_at (ackCondition_quiet named) (room_of_short none short) n
  have turn := ackCondition_own (named := named) (n := n) room
  rw [enabled, lives, latched] at turn
  exact ⟨ends.trans turn.1, live, fun renewed => carries (turn.2 renewed)⟩

end Sys2Proof.Proofs

namespace Sys2Proof.Proofs
open Sys2Proof Sys2Proof.Machine Sys2Proof.Laws

/-! ### CONDITION ENABLE and CONDITION ACK served (R150, R159, R160, R167) -/

/-- The set names a condition above 10 by one of bits 11 to 15. -/
theorem namesConditionAbove10_iff (b : Byte) :
    namesConditionAbove10 b = true ↔ ∃ k : Nat, 3 ≤ k ∧ k < 8 ∧ b.getLsbD k = true := by
  unfold namesConditionAbove10
  rw [bne_iff_ne]
  constructor
  · intro set
    by_contra none
    refine set (BitVec.eq_of_getLsbD_eq fun i bound => ?_)
    have low : b.getLsbD (3 + i) = false :=
      Bool.eq_false_iff.2 fun high => none ⟨3 + i, Nat.le_add_right 3 i, by omega, high⟩
    simp [low]
  · rintro ⟨k, low, bound, high⟩ clear
    have bit := congrArg (fun v => v.getLsbD (k - 3)) clear
    simp [show k - 3 < 5 by omega, show 3 + (k - 3) = k by omega, high] at bit

theorem readConditionSet_get (lo hi : Byte) (n : ConditionIdx) :
    (readConditionSet lo hi)[n] = if n.val < 8 then lo.getLsbD n.val else hi.getLsbD (n.val - 8) := by
  simp [readConditionSet]

/-- Two bytes that hold the flags of a vector, bit n for condition n (R165, R167). -/
theorem conditionSetBytes_spec (v : Vector Bool 11) :
    (conditionSetBytes v).length = 2 ∧
      ∀ n : ConditionIdx, (byteAt (conditionSetBytes v) (n.val / 8)).getLsbD (n.val % 8) = v[n] := by
  refine ⟨rfl, fun n => ?_⟩
  have bit := conditionSet_getLsbD [] [] v n
  rwa [List.nil_append, List.append_nil, List.length_nil, Nat.zero_add] at bit

/-- A request of one of the two codes with its condition set goes to its owner. -/
theorem handing_conditionSet {q : Request} {code lo hi : Byte} (direct : q.broadcast = false)
    (payload : q.payload = [code, lo, hi]) (known : code = conditionEnableCode ∨ code = conditionAckCode) :
    handing q = .toOwner ∧ hasCode code q = true := by
  have codes : q.code = code := by rw [Request.code, payload]; rfl
  refine ⟨?_, decide_eq_true codes⟩
  unfold handing
  rw [direct, codes, payload]
  rcases known with rfl | rfl <;> rfl

theorem foundFrom_foundAt (place : Nat) (s : State) : s.FoundFrom (foundAt place s) place := by
  unfold State.FoundFrom foundAt
  cases s.evaluator.pass <;> rfl

theorem foundFrom_of_evaluator {s u t : State} {place : Nat} (h : s.FoundFrom u place)
    (evaluator : t.evaluator = u.evaluator) : s.FoundFrom t place := by
  unfold State.FoundFrom at h ⊢
  rwa [evaluator]

/-- A request with a condition set, served: its owner answers FIELD; or it acts on a part whose pass is found complete, and
answers OK with the flags as they then stand. -/
theorem conditionRequest_served {s : State} {q : Request} {code lo hi : Byte} (serves : s.Serves q)
    (payload : q.payload = [code, lo, hi]) (known : code = conditionEnableCode ∨ code = conditionAckCode)
    {change : Vector Bool 11 → State → State} {body : ConditionUnit → List Byte} {act : Request → State → State}
    (kept : ∀ v (u : State), u.changesOnly (change v u) announceParts)
    (acts : ∀ u, act q u = if namesConditionAbove10 hi then answer q .field [] u
      else answer q .ok (body (change (readConditionSet lo hi) (foundAt passEnd u)).conditions)
        (change (readConditionSet lo hi) (foundAt passEnd u))) :
    let t := serve (hasCode code) act s
    s.linkOtherwiseSame t ∧ (namesConditionAbove10 hi = true → s.Answered t q 3 [] ∧ s.changesOnly t [.link]) ∧
      (¬namesConditionAbove10 hi = true →
        s.changesOnly t [.conditions, .report, .link, .choices, .evaluator] ∧ s.FoundFrom t 1280 ∧
          s.Answered t q 0 (body t.conditions) ∧
          ∃ a, (a.conditions = s.conditions ∧ a.report = s.report ∧ a.time = s.time) ∧
            t.conditions = (change (readConditionSet lo hi) a).conditions ∧
            t.report = (change (readConditionSet lo hi) a).report) := by
  intro t
  obtain ⟨owner, hers⟩ := handing_conditionSet serves.direct payload known
  have served (done) : t = _ := serve_alone serves.swap serves.alone owner hers done
  by_cases above : namesConditionAbove10 hi = true
  · have field := (acts (dropRequest s)).trans (if_pos above)
    obtain ⟨answered, otherwise⟩ := answer_answered .field [] serves (u := dropRequest s) rfl
    have step := served (by rw [field]; exact answered.requests)
    rw [step, field]
    exact ⟨otherwise,
      fun _ => ⟨answered, changesOnly_trans (dropRequest_changesOnly s) (answer_changesOnly q .field [] _)⟩,
      fun within => absurd above within⟩
  · have ok := (acts (dropRequest s)).trans (if_neg above)
    have found := foundAt_changesOnly passEnd (dropRequest s)
    have changed := kept (readConditionSet lo hi) (foundAt passEnd (dropRequest s))
    have link := (changed .link (by decide)).trans (found .link (by decide))
    obtain ⟨answered, otherwise⟩ :=
      answer_answered .ok (body (change (readConditionSet lo hi) (foundAt passEnd (dropRequest s))).conditions) serves link
    have step := served (by rw [ok]; exact answered.requests)
    rw [step, ok]
    refine ⟨otherwise, fun high => absurd high above, fun _ => ⟨?_, ?_, ?_, foundAt passEnd (dropRequest s),
      ⟨found .conditions (by decide), found .report (by decide), found .time (by decide)⟩, answer_conditions ..,
      answer_report ..⟩⟩
    · exact changesOnly_then (changesOnly_then (changesOnly_then (changesOnly_mono _ (dropRequest_changesOnly s)) found)
        changed) (answer_changesOnly q .ok _ _)
    · exact foundFrom_of_evaluator (foundFrom_foundAt passEnd (dropRequest s))
        ((answer_evaluator ..).trans (changed .evaluator (by decide)))
    · rw [answer_conditions]
      exact answered

/-- From `s` to `t` condition `n` comes to the latch given; its live value stands, and its record is in the queue where the
latch is new, as far as there is room for a record of each condition. -/
def LatchesAs (s t : State) (n : ConditionIdx) (latch renewed : Bool) : Prop :=
  (latch = true → t.conditions.latched[n] = true) ∧
    (s.report.records.length ≤ 181 → t.conditions.latched[n] = latch ∧ t.conditions.live[n] = s.conditions.live[n] ∧
      (renewed = true → Carries t.report (s.conditionOffer n)))

theorem latchesAs_of_same {a s u t : State} {n : ConditionIdx} {latch renewed : Bool} (h : LatchesAs a u n latch renewed)
    (same : a.conditions = s.conditions ∧ a.report = s.report ∧ a.time = s.time)
    (conditions : t.conditions = u.conditions) (report : t.report = u.report) : LatchesAs s t n latch renewed := by
  obtain ⟨before, queue, time⟩ := same
  unfold LatchesAs at h ⊢
  rwa [conditions, report, ← before, ← queue, ← conditionOffer_time time]

theorem replaceEnables_latchesAs {s : State} (none : s.conditions.waiting = []) (enables : Vector Bool 11)
    {n : ConditionIdx} (lawful : s.conditions.latched[n] = true → s.conditions.enables[n] = true) :
    LatchesAs s (replaceEnables enables s) n
      (enables[n] && if s.conditions.enables[n] then s.conditions.latched[n] else s.conditions.live[n])
      (enables[n] && !s.conditions.enables[n] && s.conditions.live[n]) := by
  refine ⟨fun latch => ?_, fun short => ?_⟩
  · obtain ⟨on, held⟩ := Bool.and_eq_true_iff.1 latch
    exact replaceEnables_latched on held
  · obtain ⟨latched, live, carries⟩ := replaceEnables_quietly none short enables lawful
    exact ⟨latched, by rw [live], carries⟩

theorem acknowledge_latchesAs {s : State} (none : s.conditions.waiting = []) (named : Vector Bool 11) (n : ConditionIdx) :
    LatchesAs s (acknowledge named s) n
      (if named[n] then s.conditions.enables[n] && s.conditions.live[n] else s.conditions.latched[n])
      (named[n] && s.conditions.enables[n] && s.conditions.live[n]) := by
  refine ⟨acknowledge_latched, fun short => ?_⟩
  obtain ⟨latched, live, carries⟩ := acknowledge_quietly none short named n
  exact ⟨latched, by rw [live], carries⟩

/-- Settles O54: each condition's own turn decides its latch, and the others' turns leave it. -/
theorem conditionEnableAndAck : Obligations.ConditionEnableAndAck := by
  intro s q lo hi law serves named above set latches
  have asked : ∀ n : ConditionIdx, (readConditionSet lo hi)[n] = named n := readConditionSet_get lo hi
  have aboveIff : namesConditionAbove10 hi = true ↔ above := namesConditionAbove10_iff hi
  refine ⟨fun payload => ?_, fun payload => ?_⟩
  · obtain ⟨otherwise, field, ok⟩ := conditionRequest_served (code := conditionEnableCode) serves payload (.inl rfl)
      (body := fun c => conditionSetBytes c.enables ++ conditionSetBytes c.latched)
      (act := actConditionEnable) replaceEnables_changesOnly (fun u => by rw [actConditionEnable, payload]; rfl)
    refine ⟨_, rfl, otherwise, fun high => field (aboveIff.2 high), fun within => ?_⟩
    obtain ⟨frame, found, answered, a, same, flags, records⟩ := ok fun high => within (aboveIff.1 high)
    have conditions := same.1
    refine ⟨frame, found, ⟨_, _, conditionSetBytes_spec _, conditionSetBytes_spec _, answered⟩, fun n => ?_⟩
    have lawful : a.conditions.latched[n] = true → a.conditions.enables[n] = true := by
      rw [conditions]; exact law.enabled n
    have latched := latchesAs_of_same
      (replaceEnables_latchesAs (conditions ▸ law.settled) (readConditionSet lo hi) lawful) same flags records
    rw [conditions, asked] at latched
    refine ⟨?_, fun off => ?_, latched⟩
    · rw [flags, replaceEnables_enables]; exact asked n
    · rw [flags]; exact replaceEnables_disabled ((asked n).trans off) lawful
  · obtain ⟨otherwise, field, ok⟩ := conditionRequest_served (code := conditionAckCode) serves payload (.inr rfl)
      (body := fun c => conditionSetBytes c.latched)
      (act := actConditionAck) acknowledge_changesOnly (fun u => by rw [actConditionAck, payload]; rfl)
    refine ⟨_, rfl, otherwise, fun high => field (aboveIff.2 high), fun within => ?_⟩
    obtain ⟨frame, found, answered, a, same, flags, records⟩ := ok fun high => within (aboveIff.1 high)
    have conditions := same.1
    refine ⟨frame, found, ?_, ⟨_, conditionSetBytes_spec _, answered⟩, fun n => ?_⟩
    · rw [flags, acknowledge_enables, conditions]
    have latched := latchesAs_of_same
      (acknowledge_latchesAs (conditions ▸ law.settled) (readConditionSet lo hi) n) same flags records
    rw [conditions, asked] at latched
    exact latched

end Sys2Proof.Proofs

namespace Sys2Proof.Proofs
open Sys2Proof Sys2Proof.Machine Sys2Proof.Laws

/-! ### A request of a known code served by its owner (R150, R151) -/

/-- A request of a known code and the right length goes to its owner; CARD CONTROL, whose action is checked too, and TABLE
WRITE, whose length varies, are left out. -/
theorem handing_fixedLength {q : Request} {code : Byte} {params : List Byte} (direct : q.broadcast = false)
    (payload : q.payload = code :: params) (known : code ∈ knownCodes) (fixed : code ≠ 0x20#8) (action : code ≠ 0x10#8)
    (length : params.length = paramsLength code) : handing q = .toOwner ∧ hasCode code q = true := by
  have codes : q.code = code := by rw [Request.code, payload]; rfl
  refine ⟨?_, decide_eq_true codes⟩
  rw [handing_known direct payload known]
  simp only [fixed, action, length, ne_eq, not_true_eq_false, if_false, false_and]

/-- An owner that answers and changes no more of the desk link: its request served is that answer. -/
theorem answered_alone {s u : State} {q : Request} {mine : Request → Bool} {act : Request → State → State}
    {st : AnswerStatus} {body : List Byte} (serves : s.Serves q) (handed : handing q = .toOwner ∧ mine q = true)
    (acts : act q (dropRequest s) = answer q st body u) (link : u.link = (dropRequest s).link) :
    serve mine act s = answer q st body u ∧ s.Answered (answer q st body u) q st.byte body ∧
      s.linkOtherwiseSame (answer q st body u) := by
  obtain ⟨answered, otherwise⟩ := answer_answered st body serves link
  refine ⟨?_, answered, otherwise⟩
  rw [← acts]
  exact serve_alone serves.swap serves.alone handed.1 handed.2 (by rw [acts]; exact answered.requests)

/-! ### REFRESH CONTROL (R117) -/

theorem clampInterval_eq (n : Nat) : clampInterval n = if n < 10 then 10 else if 2000 < n then 2000 else n := by
  unfold clampInterval
  split
  · omega
  · split <;> omega

theorem control_enabled (r : ImageReader) (interval : Nat) (t : Time) : r.control true interval t =
    { r with enable := true, interval := interval, nextExpiry := some (t + BitVec.ofNat 32 interval) } := rfl

theorem control_disabled (r : ImageReader) (interval : Nat) (t : Time) : r.control false interval t =
    { r with enable := false, interval := interval, nextExpiry := none, regular := .none } := rfl

section
variable {q : Request} {enable hi lo : Byte} (payload : q.payload = [0x31#8, enable, hi, lo]) (s : State)
include payload

theorem actRefreshControl_field (other : enable ≠ 0 ∧ enable ≠ 1) : actRefreshControl q s = answer q .field [] s := by
  unfold actRefreshControl
  rw [payload]
  exact if_pos other

theorem actRefreshControl_ok (known : ¬(enable ≠ 0 ∧ enable ≠ 1)) :
    let interval := clampInterval (ofBe16 hi lo).toNat
    actRefreshControl q s = answer q .ok (enable :: be16 (word16 interval))
      (s.setReader (s.reader.control (enable = 1) interval s.time.counter)) := by
  unfold actRefreshControl
  rw [payload]
  exact if_neg known

end

/-- Settles O32: an enable byte of neither value is answered FIELD; the other two set the timer and are answered OK. -/
theorem refreshControlSetsTheTimer : Obligations.RefreshControlSetsTheTimer := by
  intro s q enable hi lo serves payload asked interval
  have clamped : clampInterval asked = interval := clampInterval_eq asked
  have handed : handing q = .toOwner ∧ hasCode refreshControlCode q = true :=
    handing_fixedLength serves.direct payload (by decide) (by decide) (by decide) rfl
  have frame := changesOnly_mono (ps := [.reader, .link]) _ (exec_changesOnly .refreshControl s _ rfl)
  by_cases other : enable ≠ 0 ∧ enable ≠ 1
  · obtain ⟨step, answered, otherwise⟩ := answered_alone serves handed (actRefreshControl_field payload _ other) rfl
    rw [← step] at answered otherwise
    refine ⟨_, rfl, otherwise, frame, fun _ _ => ⟨answered, ?_⟩, fun one => absurd one other.2,
      fun zero => absurd zero other.1⟩
    rw [step, answer_reader]
    rfl
  · obtain ⟨step, answered, otherwise⟩ := answered_alone serves handed (actRefreshControl_ok payload _ other) rfl
    rw [← step] at answered otherwise
    have reader := (congrArg State.reader step).trans (answer_reader ..)
    change _ = s.reader.control (enable = 1) (clampInterval asked) s.time.counter at reader
    change s.Answered _ q 0 (enable :: be16 (word16 (clampInterval asked))) at answered
    rw [clamped] at reader answered
    refine ⟨_, rfl, otherwise, frame, fun zero one => absurd ⟨zero, one⟩ other, ?_, ?_⟩
    · rintro rfl
      exact ⟨answered, reader.trans (control_enabled ..)⟩
    · rintro rfl
      exact ⟨answered, reader.trans (control_disabled ..)⟩

/-! ### ABORT (R122, R136, R156) -/

theorem trainRunning_iff (s : State) : s.trainRunning = true ↔ ∃ w, s.reader.train = .running w := by
  unfold State.trainRunning
  cases s.reader.train <;> simp

theorem checkRunning_iff (s : State) : s.checkRunning = true ↔ ∃ w p, s.tables.checker = .checking w p := by
  unfold State.checkRunning
  cases s.tables.checker <;> simp

theorem abortTrain_running {s : State} {w : TrainWork} (running : s.reader.train = .running w) :
    abortTrain s = s.setReader { s.reader with train := .aborting w } := by
  unfold abortTrain
  rw [running]
  rfl

theorem abortTrain_idle {s : State} (idle : ¬∃ w, s.reader.train = .running w) : abortTrain s = s := by
  unfold abortTrain
  split
  next w running => exact absurd ⟨w, running⟩ idle
  next => rfl

theorem abortTrain_changesOnly (s : State) : s.changesOnly (abortTrain s) [.reader] := by
  by_cases running : ∃ w, s.reader.train = .running w
  · obtain ⟨w, running⟩ := running
    rw [abortTrain_running running]
    exact setReader_changesOnly _ _
  · rw [abortTrain_idle running]
    exact changesOnly_refl s _

theorem abortCheck_checking {s : State} {w : CommitWork} {p : Nat} (checking : s.tables.checker = .checking w p) :
    abortCheck s = deferAnswer w .aborted [] (s.setTables { s.tables with checker := .idle }) := by
  unfold abortCheck
  rw [checking]

theorem abortCheck_idle {s : State} (idle : ¬∃ w p, s.tables.checker = .checking w p) : abortCheck s = s := by
  unfold abortCheck
  split
  next w p checking => exact absurd ⟨w, p, checking⟩ idle
  next => rfl

theorem abortCheck_reader (s : State) : (abortCheck s).reader = s.reader := by
  unfold abortCheck
  split <;> simp

/-- A stopped check leaves the checker IDLE, and of the desk link it moves the deferred answers alone: the ABORTED joins
them unless the COMMIT's promise was cancelled (log 8). -/
theorem abortCheck_spec (s : State) : ∃ deferred, (abortCheck s).link = { s.link with deferred := deferred } ∧
    (∀ w p, s.tables.checker = .checking w p → (abortCheck s).tables = { s.tables with checker := .idle } ∧
      deferred = s.link.deferred ++
        if w.answered then [responseFrame s w.source w.tag commitCode .aborted []] else []) ∧
    ((¬∃ w p, s.tables.checker = .checking w p) → (abortCheck s).tables = s.tables ∧ deferred = s.link.deferred) := by
  by_cases checking : ∃ w p, s.tables.checker = .checking w p
  · obtain ⟨w, p, checking⟩ := checking
    refine ⟨(abortCheck s).link.deferred, ?_, fun w' p' same => ?_, fun idle => absurd ⟨w, p, checking⟩ idle⟩
    · rw [abortCheck_checking checking, deferAnswer_spec]
      split <;> rfl
    · obtain ⟨rfl, rfl⟩ := Checker.checking.inj (checking.symm.trans same)
      rw [abortCheck_checking checking, deferAnswer_tables, deferAnswer_spec]
      refine ⟨rfl, ?_⟩
      split
      · rfl
      · exact (List.append_nil _).symm
  · rw [abortCheck_idle checking]
    exact ⟨_, rfl, fun w p same => absurd ⟨w, p, same⟩ checking, fun _ => ⟨rfl, rfl⟩⟩

/-- An owner's answer where its act has moved the deferred answers: they stand, and nothing else of the desk link changes but
the request, its promise and the Response Queue. -/
theorem answer_answered_deferred {s u : State} {q : Request} {deferred : List DeskFrame} (st : AnswerStatus)
    (body : List Byte) (serves : s.Serves q) (link : u.link = { (dropRequest s).link with deferred := deferred }) :
    let t := answer q st body u
    s.Answered t q st.byte body ∧ t.link.deferred = deferred ∧
      s.linkOtherwiseSame { t with link := { t.link with deferred := s.link.deferred } } := by
  intro t
  have aside : t.link = { (answer q st body (u.setLink (dropRequest s).link)).link with deferred := deferred } := by
    rw [answer_spec, answer_spec, responseFrame, responseFrame, setLink_link, link]
    split <;> rfl
  obtain ⟨⟨requests, promises, responses⟩, otherwise⟩ :=
    answer_answered st body serves (setLink_link u (dropRequest s).link)
  unfold State.linkOtherwiseSame at otherwise ⊢
  rw [aside]
  obtain ⟨node, range, downward, downstreamTx, forward, upstreamTx, -, rest⟩ := otherwise
  exact ⟨⟨by rw [aside]; exact requests, by rw [aside]; exact promises, by rw [aside]; exact responses⟩, rfl, node, range,
    downward, downstreamTx, forward, upstreamTx, rfl, rest⟩

theorem flagsByte_pair (a b : Bool) :
    flagsByte [a, b] = BitVec.ofNat 8 ((if a then 1 else 0) + if b then 2 else 0) := by
  cases a <;> cases b <;> rfl

/-- Settles O50: ABORT's act is the train's, then the check's, then the answer with the flags of what both found. -/
theorem abortStopsTheTrainAndTheCheck : Obligations.AbortStopsTheTrainAndTheCheck := by
  intro s q serves payload running checking
  obtain ⟨owner, mine⟩ := handing_fixedLength serves.direct payload (by decide) (by decide) (by decide) rfl
  have train := abortTrain_changesOnly (dropRequest s)
  have link : (abortTrain (dropRequest s)).link = (dropRequest s).link := train .link (by decide)
  have tables : (abortTrain (dropRequest s)).tables = s.tables := train .tables (by decide)
  obtain ⟨deferred, checked, stops, stays⟩ := abortCheck_spec (abortTrain (dropRequest s))
  rw [link] at checked
  rw [tables, link] at stops stays
  obtain ⟨answered, joined, otherwise⟩ := answer_answered_deferred .ok
    [flagsByte [s.trainRunning, s.checkRunning]] serves checked
  have step : exec .abort s = .next (actAbort q (dropRequest s)) :=
    congrArg Host.Outcome.next (serve_alone serves.swap serves.alone owner mine answered.requests)
  have reader : (actAbort q (dropRequest s)).reader = (abortTrain (dropRequest s)).reader :=
    (answer_reader ..).trans (abortCheck_reader _)
  change s.Answered (actAbort q (dropRequest s)) q 0 [flagsByte [s.trainRunning, s.checkRunning]] at answered
  rw [flagsByte_pair] at answered
  refine ⟨_, _, _, step, trainRunning_iff s, checkRunning_iff s, answered, fun w found => ?_, fun idle => ?_,
    fun w p found => ?_, fun idle => ?_, otherwise, exec_changesOnly .abort s _ step⟩
  · exact reader.trans (congrArg State.reader (abortTrain_running (s := dropRequest s) found))
  · exact reader.trans ((congrArg State.reader (abortTrain_idle (s := dropRequest s) idle)).trans rfl)
  · obtain ⟨stopped, aborted⟩ := stops w p found
    refine ⟨(answer_tables ..).trans stopped, joined.trans (aborted.trans ?_)⟩
    rw [responseFrame, link]
    rfl
  · obtain ⟨same, none⟩ := stays idle
    exact ⟨(answer_tables ..).trans same, joined.trans none⟩

end Sys2Proof.Proofs

namespace Sys2Proof.Proofs
open Sys2Proof Sys2Proof.Machine Sys2Proof.Laws

/-! ### The frames of a train (R119 to R122, R167) -/

theorem flagByte_decide (p : Prop) [Decidable p] : flagByte (decide p) = if p then 1 else 0 := by
  by_cases h : p <;> simp [flagByte, h]

section
variable {w : TrainWork} (inSpan : w.InSpan)
include inSpan

/-- Within its span a train is at its last frame where no more items remain than one frame holds (R120). -/
theorem isLast_inSpan : w.isLast = decide (w.start + w.count - w.next ≤ w.kind.perFrame) := by
  obtain ⟨-, next, -⟩ := inSpan
  unfold TrainWork.isLast TrainWork.frameItems
  refine decide_eq_decide.2 ?_
  omega

theorem advanced_eq : w.advanced =
    if w.start + w.count - w.next ≤ w.kind.perFrame then .none
    else .running { w with next := w.next + w.kind.perFrame } := by
  unfold TrainWork.advanced
  rw [isLast_inSpan inSpan]
  by_cases last : w.start + w.count - w.next ≤ w.kind.perFrame
  · rw [if_pos (decide_eq_true last), if_pos last]
  · rw [if_neg (mt of_decide_eq_true last), if_neg last, TrainWork.frameItems, Nat.min_eq_left (Nat.le_of_not_le last)]

/-- The next frame of a train within its span, byte by byte. -/
theorem nextTrainFrame_eq (s : State) : s.nextTrainFrame w =
    { destination := nodeByte w.source, source := nodeByte s.link.ownNode, kind := 2, tag := w.tag
      payload :=
        [0x30#8, 0, w.kind.byte] ++ be16 (BitVec.ofNat 16 w.next) ++
          be16 (if w.next = w.start then BitVec.ofNat 16 w.count else 0) ++ be16 s.tables.generation ++
          be32 s.time.counter ++ [if w.start + w.count - w.next ≤ w.kind.perFrame then 1 else 0] ++
          (if w.kind = .proving then
            [Config.provingStatusByte ((s.cards[w.card]).proving = .fail), BitVec.ofNat 8 (s.cards[w.card]).cleanRun]
          else []) ++
          (((s.items w.kind w.card).drop w.next).take (min w.kind.perFrame (w.start + w.count - w.next))).flatten } := by
  unfold State.nextTrainFrame
  rw [isLast_inSpan inSpan, ← flagByte_decide]
  rfl

end

theorem canBuildTrainFrame_of {s : State} (still : s.swapping = false)
    (room : s.link.responses.length + s.link.promises < 4) (alone : ∀ e ∈ s.link.responses, e.train = false) :
    s.canBuildTrainFrame = true := by
  have left : s.link.responses.all (fun e => !e.train) = true :=
    List.all_eq_true.2 fun e mem => by rw [alone e mem]; rfl
  unfold State.canBuildTrainFrame
  rw [still, left, show s.hasRoom = true from decide_eq_true room]
  rfl

theorem sendTrainFrame_placeEntry (w : TrainWork) (s : State) : sendTrainFrame w placeEntry s =
    ((atBuild s).setLink { s.link with
      responses := s.link.responses ++ [⟨(atBuild s).nextTrainFrame w, true⟩] }).setReader
      { s.reader with train := w.advanced } := by
  rw [← atBuild_link s, ← atBuild_reader s]
  rfl

/-- Settles O34: a place, no waiting frame and no swap let the frame be built; within its span the train's own numbers say
what it holds and whether it is the last. -/
theorem trainFramesAreBuiltOneAtATime : Obligations.TrainFramesAreBuiltOneAtATime := by
  intro s w still room alone inSpan perFrame left clamped proving placed
  have can := canBuildTrainFrame_of still room alone
  refine ⟨fun running => congrArg Host.Outcome.next ?_, fun aborting => congrArg Host.Outcome.next ?_⟩
  · rw [running]
    refine (if_pos can).trans ?_
    rw [sendTrainFrame_placeEntry, nextTrainFrame_eq inSpan, advanced_eq inSpan, atBuild_link, atBuild_tables,
      atBuild_time, atBuild_cards]
  · rw [aborting]
    refine (if_pos can).trans ?_
    unfold State.abortedFrame State.trainFrame
    rw [List.append_nil]
    rfl

/-! ### SNAPSHOT (R118 to R120, R167) -/

/-- The six kinds' bytes, and no other, name a kind. -/
theorem kindOfByte_eq_none_iff (k : Byte) : kindOfByte k = none ↔ k = 0 ∨ 6 < k.toNat := by
  have unnamed : kindOfByte k = none ↔ k ≠ 1 ∧ k ≠ 2 ∧ k ≠ 3 ∧ k ≠ 4 ∧ k ≠ 5 ∧ k ≠ 6 := by
    unfold kindOfByte
    split_ifs <;> simp only [*, ne_eq, not_true_eq_false, not_false_eq_true, false_and, and_false, and_self]
  rw [unnamed]
  bv_omega

/-- What a kind's byte says of the kind (R118, R119, R167). -/
structure KindNumbers (k : Byte) (kind : ItemKind) : Prop where
  byte : kind.byte = k
  size : kind.size =
    if k = 1 then 512 else if k = 2 then 768 else if k = 5 then 16 else if k = 6 then 232 else 64
  perFrame : kind.perFrame = if k = 1 then 128 else if k = 5 then 16 else 64
  usesCard : kind.usesCard = true ↔ k = 3 ∨ k = 4
  proving : kind = .proving ↔ k = 4

theorem byte_of_kindOfByte {k : Byte} {kind : ItemKind} (named : kindOfByte k = some kind) : k = kind.byte := by
  unfold kindOfByte at named
  split_ifs at named <;> cases named <;> assumption

theorem kindNumbers {k : Byte} {kind : ItemKind} (named : kindOfByte k = some kind) : KindNumbers k kind := by
  obtain rfl := byte_of_kindOfByte named
  cases kind <;> exact ⟨rfl, rfl, rfl, by decide, by decide⟩

/-- The train that a SNAPSHOT of the given kind, card, start and count begins, before its first frame (R118, R120). -/
def trainAsked (q : Request) (kind : ItemKind) (card : Byte) (start asked : Nat) : TrainWork :=
  { source := q.source, tag := q.tag, kind := kind, card := ⟨card.toNat % 16, Nat.mod_lt _ (by decide)⟩
    start := start, count := min asked (kind.size - start), next := start }

/-- A train begins at the first item of a span that is not empty and lies in the collection. -/
theorem trainAsked_inSpan {kind : ItemKind} {start asked : Nat} (q : Request) (card : Byte) (wanted : asked ≠ 0)
    (inside : start < kind.size) : (trainAsked q kind card start asked).InSpan := by
  unfold TrainWork.InSpan trainAsked
  dsimp only
  omega

theorem actSnapshot_busy (q : Request) {s : State} (busy : s.reader.train ≠ .none) :
    actSnapshot q s = answer q .busy [] s := by
  unfold actSnapshot
  exact if_pos busy

section
variable {q : Request} {s : State} (free : s.reader.train = .none)
include free

theorem actSnapshot_unknownKind (unknown : kindOfByte (byteAt q.payload 1) = none) :
    actSnapshot q s = answer q .field [] s := by
  unfold actSnapshot
  rw [unknown]
  exact if_neg (not_not.2 free)

theorem actSnapshot_knownKind {kind : ItemKind} (named : kindOfByte (byteAt q.payload 1) = some kind) :
    actSnapshot q s =
      if (kind.usesCard = true ∧ 15 < natAt q.payload 2) ∨ nat16At q.payload 5 = 0 then answer q .field [] s
      else if kind.size ≤ nat16At q.payload 3 then answer q .range [] s
      else beginTrain q (trainAsked q kind (byteAt q.payload 2) (nat16At q.payload 3) (nat16At q.payload 5)) s := by
  unfold actSnapshot
  rw [named]
  refine (if_neg (not_not.2 free)).trans ?_
  simp only [Bool.or_eq_true, Bool.and_eq_true, decide_eq_true_eq]
  rfl

/-! The same by the parameters of the payload. -/

/-- A parameter for which R118 answers FIELD. -/
def BadSnapshotField (k card : Byte) (asked : Nat) : Prop :=
  k = 0 ∨ 6 < k.toNat ∨ ((k = 3 ∨ k = 4) ∧ 15 < card.toNat) ∨ asked = 0

variable {k card s1 s0 c1 c0 : Byte} (payload : q.payload = [0x30#8, k, card, s1, s0, c1, c0])
include payload

theorem actSnapshot_badField (bad : BadSnapshotField k card (ofBe16 c1 c0).toNat) :
    actSnapshot q s = answer q .field [] s := by
  have kindByte : byteAt q.payload 1 = k := by rw [payload]; rfl
  cases named : kindOfByte k with
  | none => exact actSnapshot_unknownKind free (kindByte ▸ named)
  | some kind =>
    have known : ¬(k = 0 ∨ 6 < k.toNat) := by rw [← kindOfByte_eq_none_iff, named]; exact nofun
    have field : (kind.usesCard = true ∧ 15 < card.toNat) ∨ (ofBe16 c1 c0).toNat = 0 := by
      rw [(kindNumbers named).usesCard]
      exact (or_assoc.2 bad).resolve_left known
    rw [actSnapshot_knownKind free (kindByte ▸ named), payload]
    exact if_pos field

theorem actSnapshot_goodField (good : ¬BadSnapshotField k card (ofBe16 c1 c0).toNat) :
    ∃ kind, kindOfByte k = some kind ∧ actSnapshot q s =
      if kind.size ≤ (ofBe16 s1 s0).toNat then answer q .range [] s
      else beginTrain q (trainAsked q kind card (ofBe16 s1 s0).toNat (ofBe16 c1 c0).toNat) s := by
  have kindByte : byteAt q.payload 1 = k := by rw [payload]; rfl
  obtain ⟨known, rest⟩ := not_or.1 (mt or_assoc.1 good)
  rw [← kindOfByte_eq_none_iff, ← ne_eq, Option.ne_none_iff_exists'] at known
  obtain ⟨kind, named⟩ := known
  rw [← (kindNumbers named).usesCard] at rest
  refine ⟨kind, named, ?_⟩
  rw [actSnapshot_knownKind free (kindByte ▸ named), payload]
  exact if_neg rest

end

/-! ### A SNAPSHOT served -/

/-- How far a pass is found does not rest on the desk link. -/
theorem atBuild_setLink (s : State) (l : DeskLink) : atBuild (s.setLink l) = (atBuild s).setLink l := by
  unfold atBuild
  cases pass : s.evaluator.pass with
  | none => rw [builtAt_of_no_pass _ s pass, builtAt_of_no_pass _ (s.setLink l) pass]
  | some p =>
    rw [builtAt_of_pass _ s p pass, builtAt_of_pass _ (s.setLink l) p pass]
    rfl

/-- Of the desk link the items read the counters alone. -/
theorem items_setLink (s : State) {l : DeskLink} (counters : l.counters = s.link.counters) (kind : ItemKind)
    (card : CardIdx) : (s.setLink l).items kind card = s.items kind card := by
  cases kind with
  | counters =>
    show ((s.setLink l).counterList).map be16 = s.counterList.map be16
    unfold State.counterList
    rw [setLink_link, counters]
    rfl
  | _ => rfl

theorem items_atBuild_dropRequest (s : State) (kind : ItemKind) (card : CardIdx) :
    (atBuild (dropRequest s)).items kind card = (atBuild s).items kind card := by
  unfold dropRequest
  rw [atBuild_setLink]
  exact items_setLink _ (by rw [atBuild_link]) kind card

theorem beginTrain_eq {q : Request} (promised : q.promised = true) (w : TrainWork) (s : State) : beginTrain q w s =
    ((atBuild s).setLink { s.link with
      promises := s.link.promises - 1
      responses := s.link.responses ++ [⟨(atBuild s).nextTrainFrame w, true⟩] }).setReader
      { s.reader with train := w.advanced } := by
  have places : answerEntry q = fun e u => placeEntry e (releasePromise u) := by
    funext e u
    exact if_pos promised
  unfold beginTrain sendTrainFrame
  rw [if_pos promised, places, ← atBuild_link s, ← atBuild_reader s]
  rfl

section
variable {k card : Byte} {kind : ItemKind} {start asked : Nat} (q : Request)
  (wanted : asked ≠ 0) (inside : start < kind.size)
include wanted inside

/-- An accepted SNAPSHOT's first frame, byte by byte. -/
theorem firstFrame_eq (numbers : KindNumbers k kind) (s : State) :
    let count := min asked (kind.size - start)
    s.nextTrainFrame (trainAsked q kind card start asked) =
      { destination := nodeByte q.source, source := nodeByte s.link.ownNode, kind := 2, tag := q.tag
        payload :=
          [0x30#8, 0, k] ++ be16 (BitVec.ofNat 16 start) ++ be16 (BitVec.ofNat 16 count) ++
            be16 s.tables.generation ++ be32 s.time.counter ++ [if count ≤ kind.perFrame then 1 else 0] ++
            (if k = 4 then
              let c := s.cards[card.toNat % 16]
              [Config.provingStatusByte (c.proving = .fail), BitVec.ofNat 8 c.cleanRun]
            else []) ++
            (((s.items kind ⟨card.toNat % 16, Nat.mod_lt _ (by decide)⟩).drop start).take
              (min kind.perFrame count)).flatten } := by
  intro count
  rw [nextTrainFrame_eq (trainAsked_inSpan q card wanted inside)]
  simp only [trainAsked, if_true, Nat.add_sub_cancel_left, numbers.byte, numbers.proving]
  rfl

/-- An accepted SNAPSHOT's train ends with its first frame where that holds the whole span, and goes on behind it
otherwise. -/
theorem firstFrame_advanced :
    let count := min asked (kind.size - start)
    (trainAsked q kind card start asked).advanced =
      if count ≤ kind.perFrame then .none
      else .running
        { source := q.source, tag := q.tag, kind := kind, card := ⟨card.toNat % 16, Nat.mod_lt _ (by decide)⟩
          start := start, count := count, next := start + kind.perFrame } := by
  intro count
  rw [advanced_eq (trainAsked_inSpan q card wanted inside)]
  simp only [trainAsked, Nat.add_sub_cancel_left]
  rfl

end

section
variable {s : State} {q : Request} (serves : s.Serves q)
  (handed : handing q = .toOwner ∧ hasCode snapshotCode q = true)
include serves handed

theorem snapshot_refused {st : AnswerStatus} (acts : actSnapshot q (dropRequest s) = answer q st [] (dropRequest s)) :
    let t := serve (hasCode snapshotCode) actSnapshot s
    s.linkOtherwiseSame t ∧ s.Answered t q st.byte [] ∧ s.changesOnly t [.link] := by
  obtain ⟨step, answered, otherwise⟩ := answered_alone serves handed acts rfl
  dsimp only
  rw [step]
  exact ⟨otherwise, answered, changesOnly_trans (dropRequest_changesOnly s) (answer_changesOnly q st [] _)⟩

/-- A SNAPSHOT served whose train begins: the frame takes the promise's place, and the train stands behind it. -/
theorem snapshot_begun {w : TrainWork} (acts : actSnapshot q (dropRequest s) = beginTrain q w (dropRequest s)) :
    serve (hasCode snapshotCode) actSnapshot s =
      ((atBuild s).setLink { s.link with
        requests := [], promises := 0
        responses := s.link.responses ++ [⟨(atBuild (dropRequest s)).nextTrainFrame w, true⟩] }).setReader
        { s.reader with train := w.advanced } := by
  have requests : (dropRequest s).link = { s.link with requests := [] } :=
    congrArg (fun r => { s.link with requests := r }) (congrArg List.tail serves.alone)
  have built : atBuild (dropRequest s) = (atBuild s).setLink (dropRequest s).link := atBuild_setLink s _
  have begun := beginTrain_eq serves.promised w (dropRequest s)
  rw [requests, serves.counted] at begun
  rw [serve_alone serves.swap serves.alone handed.1 handed.2 (by rw [acts, begun]; rfl), acts, begun]
  generalize (atBuild (dropRequest s)).nextTrainFrame w = frame
  rw [built]
  rfl

end

/-- Settles O33: R118's cases in their order; the train that begins is within its span, so its numbers say what its first
frame holds and whether it goes on. -/
theorem snapshotIsRefusedOrBeginsATrain : Obligations.SnapshotIsRefusedOrBeginsATrain := by
  intro s q k card s1 s0 c1 c0 serves payload start asked badField size perFrame count
  have handed : handing q = .toOwner ∧ hasCode snapshotCode q = true :=
    handing_fixedLength serves.direct payload (by decide) (by decide) (by decide) rfl
  have frame := changesOnly_mono (ps := [.reader, .link, .evaluator, .choices]) _ (exec_changesOnly .snapshot s _ rfl)
  by_cases free : s.reader.train = .none
  case neg =>
    obtain ⟨otherwise, answered, link⟩ := snapshot_refused serves handed (actSnapshot_busy q (s := dropRequest s) free)
    exact ⟨_, rfl, otherwise, frame, fun _ => ⟨answered, link⟩, fun none => absurd none free,
      fun none => absurd none free, fun none => absurd none free⟩
  by_cases bad : badField
  case pos =>
    obtain ⟨otherwise, answered, link⟩ := snapshot_refused serves handed
      (actSnapshot_badField (s := dropRequest s) free payload bad)
    exact ⟨_, rfl, otherwise, frame, fun busy => absurd free busy, fun _ _ => ⟨answered, link⟩,
      fun _ good => absurd bad good, fun _ good => absurd bad good⟩
  obtain ⟨kind, named, acts⟩ := actSnapshot_goodField (s := dropRequest s) free payload bad
  have numbers := kindNumbers named
  have sizes : kind.size = size := numbers.size
  by_cases beyond : kind.size ≤ start
  case pos =>
    obtain ⟨otherwise, answered, link⟩ := snapshot_refused serves handed (acts.trans (if_pos beyond))
    exact ⟨_, rfl, otherwise, frame, fun busy => absurd free busy, fun _ bad' => absurd bad' bad,
      fun _ _ _ => ⟨answered, link⟩, fun _ _ inside => absurd (sizes ▸ beyond) (Nat.not_le.2 inside)⟩
  have wanted : asked ≠ 0 := fun none => bad (.inr (.inr (.inr none)))
  have inside : start < kind.size := Nat.not_le.1 beyond
  have step := snapshot_begun serves handed (acts.trans (if_neg beyond))
  have first := firstFrame_eq (card := card) q wanted inside numbers (atBuild (dropRequest s))
  have frames : kind.perFrame = perFrame := numbers.perFrame
  simp only [items_atBuild_dropRequest, atBuild_link, atBuild_tables, atBuild_time, atBuild_cards, sizes, frames] at first
  have advanced := firstFrame_advanced (card := card) q wanted inside
  simp only [sizes, frames] at advanced
  rw [first, advanced] at step
  refine ⟨_, (congrArg Host.Outcome.next step : exec .snapshot s = _), ⟨rfl, rfl, rfl, rfl, rfl, rfl, rfl, rfl, rfl⟩,
    step ▸ frame, fun busy => absurd free busy, fun _ bad' => absurd bad' bad,
    fun _ _ beyond' => absurd (sizes ▸ beyond') beyond, fun _ _ _ => ⟨kind, _, named, rfl, rfl, rfl, rfl, rfl, rfl, rfl,
      rfl, rfl, rfl, fun last => ?_, fun more => ?_⟩⟩
  · rw [setReader_reader, if_pos last, ← free]
  · rw [setReader_reader, if_neg (Nat.not_le.2 more)]

end Sys2Proof.Proofs

namespace Sys2Proof.Proofs
open Sys2Proof Sys2Proof.Machine Sys2Proof.Laws

/-! ### The order of the check (R131) -/

theorem mem_checkOrder (it : CheckItem) : it ∈ checkOrder := by
  cases it <;> simp [checkOrder]

/-- The check examines its records by ascending rank. -/
theorem checkOrder_ascending : checkOrder.Pairwise fun x y => x.rank < y.rank := by
  have group {n : Nat} (f : Fin n → CheckItem) (start : Nat) (ranks : ∀ i, (f i).rank = start + i.val) :
      ((List.finRange n).map f).Pairwise fun x y => x.rank < y.rank := by
    rw [List.pairwise_map]
    refine (List.pairwise_lt_finRange n).imp fun {i j} less => ?_
    rw [ranks, ranks]
    exact Nat.add_lt_add_left less start
  have cards := group .card 0 fun i => (Nat.zero_add i.val).symm
  have classes := group .cls 16 fun _ => rfl
  have relays := group .relay 24 fun _ => rfl
  have indications := group .indication 792 fun _ => rfl
  unfold checkOrder
  simp only [List.pairwise_append, cards, classes, relays, indications, true_and, List.mem_append, List.mem_map,
    List.mem_finRange]
  refine ⟨⟨?_, ?_⟩, ?_⟩
  · rintro _ ⟨c, rfl⟩ _ ⟨k, rfl⟩
    exact Nat.lt_add_right k.val c.isLt
  · rintro _ (⟨c, rfl⟩ | ⟨k, rfl⟩) _ ⟨r, rfl⟩
    · simp only [CheckItem.rank]; omega
    · simp only [CheckItem.rank]; omega
  · rintro _ ((⟨c, rfl⟩ | ⟨k, rfl⟩) | ⟨r, rfl⟩) _ ⟨i, rfl⟩
    · simp only [CheckItem.rank]; omega
    · simp only [CheckItem.rank]; omega
    · simp only [CheckItem.rank]; omega

/-- The check ends at a record that fails where every record of a lower rank passes (R131, R134). -/
theorem checkFrom_zero_of_first {b : Bank} {it : CheckItem} {kind : ErrorKind} (fails : b.itemError it = some kind)
    (first : ∀ x : CheckItem, x.rank < it.rank → b.itemError x = none) : b.checkFrom 0 = some (kind, it.index) := by
  obtain ⟨before, after, order⟩ := List.append_of_mem (mem_checkOrder it)
  have lower : ∀ x ∈ before, x.rank < it.rank := fun x mem =>
    (List.pairwise_append.1 (order ▸ checkOrder_ascending)).2.2 x mem it List.mem_cons_self
  have passed : (before.findSome? fun x => (b.itemError x).map fun k => (k, x.index)) = none := by
    rw [List.findSome?_eq_none_iff]
    intro x mem
    rw [first x (lower x mem), Option.map_none]
  unfold Bank.checkFrom Bank.firstError
  rw [List.drop_zero, order, List.findSome?_append, passed, List.findSome?_cons, fails]
  rfl

/-- A bank passes exactly when no record fails its tests (R133). -/
theorem passes_iff (b : Bank) : b.passes = true ↔ ∀ it, b.itemError it = none := by
  refine ⟨fun passes it => itemError_none_of_passes passes it (mem_checkOrder it), fun none => ?_⟩
  unfold Bank.passes Bank.checkFrom Bank.firstError
  rw [Option.isNone_iff_eq_none, List.findSome?_eq_none_iff]
  intro it _
  rw [none it, Option.map_none]

/-! ### The tests of a Relay entry (R132) -/

theorem sameBit_iff (e : RelayEntry) : e.sameBit = true ↔ ∃ x l c, e = .paired x x l c := by
  cases e <;> simp [RelayEntry.sameBit, eq_comm]

theorem mem_inputs_iff {e : RelayEntry} {n : CardIdx} {x : Fin 64} :
    (n, x) ∈ e.inputs ↔ ∃ c, e.common = some c ∧ c.card = n ∧ x ∈ e.bits := by
  unfold RelayEntry.inputs
  cases e.common <;> simp [and_comm]

/-- Test c: an entry of lower index on the same card names a bit that this entry names. -/
theorem inputShared_iff {b : Bank} {r : RelayIdx} {c : RelayCommon} (common : (b.relays[r]).common = some c) :
    b.inputShared r = true ↔ ∃ (q : RelayIdx) (d : RelayCommon), q < r ∧ (b.relays[q]).common = some d ∧
      d.card = c.card ∧ ∃ x ∈ (b.relays[r]).bits, x ∈ (b.relays[q]).bits := by
  simp only [Bank.inputShared, List.any_eq_true, List.mem_finRange, true_and, Bool.and_eq_true, decide_eq_true_eq,
    List.contains_iff_mem, Prod.exists, mem_inputs_iff, common, Option.some.injEq]
  constructor
  · rintro ⟨q, lower, n, x, ⟨d, names, card, there⟩, c', rfl, own, here⟩
    exact ⟨q, d, lower, names, card.trans own.symm, x, here, there⟩
  · rintro ⟨q, d, lower, names, card, x, here, there⟩
    exact ⟨q, lower, c.card, x, ⟨d, names, card, there⟩, c, rfl, rfl, here⟩

theorem badFlash_iff {e : RelayEntry} {c : RelayCommon} (common : e.common = some c) :
    e.badFlash = true ↔ ∃ w, c.flash = some w ∧ w.fmax < w.fmin := by
  unfold RelayEntry.badFlash RelayEntry.flashWindow
  rw [common, Option.bind_some]
  cases c.flash <;> simp

/-- The five tests of a Relay entry, in their order. -/
theorem relayError_some {b : Bank} {r : RelayIdx} {c : RelayCommon} (common : (b.relays[r]).common = some c) :
    b.relayError r =
      if (b.cards[c.card]).enable = false then some .refCard
      else if (b.relays[r]).sameBit = true then some .sameBit
      else if b.inputShared r = true then some .inputShared
      else if (b.relays[r]).badFlash = true then some .badFlash
      else if (b.classes[c.flickerClass]).loaded = false then some .refClass
      else none := by
  simp only [Bank.relayError, common, Bool.not_eq_true']

theorem relayFails_iff {b : Bank} {r : RelayIdx} {c : RelayCommon} (common : (b.relays[r]).common = some c) (k : Byte) :
    b.RelayFails r c k ↔ (b.relayError r).map ErrorKind.byte = some k := by
  unfold Bank.RelayFails
  rw [relayError_some common]
  dsimp only
  rw [← sameBit_iff, ← inputShared_iff common, ← badFlash_iff common]
  generalize (b.cards[c.card]).enable = enable, (b.relays[r]).sameBit = sameBit, b.inputShared r = shared,
    (b.relays[r]).badFlash = badFlash, (b.classes[c.flickerClass]).loaded = loaded
  split_ifs <;> simp [*, ErrorKind.byte, eq_comm (a := k)]

/-! ### The tests of every record (R131 to R133) -/

/-- A record fails with the number of an error kind exactly where its tests find that kind. -/
theorem fails_iff (b : Bank) (it : CheckItem) (k : Byte) :
    b.Fails it k ↔ (b.itemError it).map ErrorKind.byte = some k := by
  cases it with
  | card c =>
    show k = 1 ∧ (b.cards[c]).windowClose ≤ (b.cards[c]).windowOpen ↔ (b.cardError c).map ErrorKind.byte = some k
    unfold Bank.cardError
    generalize b.cards[c] = e
    split
    next lawful => simp [lawful]
    next unlawful => simp [Nat.not_lt.1 unlawful, ErrorKind.byte, eq_comm (a := k)]
  | cls i =>
    show k = 2 ∧ (b.classes[i]).loaded = true ∧ (b.classes[i]).upper ≤ (b.classes[i]).lower ↔
      (b.classError i).map ErrorKind.byte = some k
    unfold Bank.classError
    generalize b.classes[i] = r
    dsimp only
    split
    next bad =>
      simp only [Bool.and_eq_true, Bool.not_eq_true', decide_eq_false_iff_not, Nat.not_lt] at bad
      simp [bad, ErrorKind.byte, eq_comm (a := k)]
    next good =>
      simp only [Bool.and_eq_true, Bool.not_eq_true', decide_eq_false_iff_not, Nat.not_lt] at good
      simp [good]
  | relay r =>
    show (∃ c, (b.relays[r]).common = some c ∧ b.RelayFails r c k) ↔ (b.relayError r).map ErrorKind.byte = some k
    cases common : (b.relays[r]).common with
    | none =>
      unfold Bank.relayError
      simp only [common]
      simp
    | some c => simp [relayFails_iff common]
  | indication i =>
    simp only [Bank.Fails, Bank.itemError, Bank.indicationError]
    cases b.indications[i] with
    | none => simp
    | some e =>
      dsimp only
      have missing : (e.inputs.any fun r => b.relays[r] = .none) = true ↔ ∃ r ∈ e.inputs, b.relays[r] = .none := by
        simp only [List.any_eq_true, decide_eq_true_eq]
      simp only [Option.some.injEq, exists_eq_left', ← missing]
      generalize (e.inputs.any fun r => b.relays[r] = .none) = missing, (b.patterns[e.pattern]).loaded = loaded
      simp only [Bool.not_eq_true']
      split_ifs <;> simp [*, ErrorKind.byte, eq_comm (a := k)]

/-! ### A bank that passes (R131 to R133) -/

/-- What the check asks of a Relay entry with the common fields `c`. -/
def LawfulRelay (b : Bank) (r : RelayIdx) (c : RelayCommon) : Prop :=
  (b.cards[c.card]).enable = true ∧ (b.classes[c.flickerClass]).loaded = true ∧
    (∀ x y l k, b.relays[r] = .paired x y l k → x ≠ y) ∧
    (∀ f, c.flash = some f → f.fmin ≤ f.fmax) ∧
    ∀ (q : RelayIdx) (d : RelayCommon), q ≠ r → (b.relays[q]).common = some d → c.card = d.card →
      ∀ x ∈ (b.relays[r]).bits, x ∉ (b.relays[q]).bits

/-- What the check asks of a bank. -/
def LawfulBank (b : Bank) : Prop :=
  (∀ c : CardIdx, (b.cards[c]).windowOpen < (b.cards[c]).windowClose) ∧
    (∀ k : ClassIdx, (b.classes[k]).loaded = true → (b.classes[k]).lower < (b.classes[k]).upper) ∧
    (∀ (r : RelayIdx) (c : RelayCommon), (b.relays[r]).common = some c → LawfulRelay b r c) ∧
    ∀ (i : IndicationIdx) (e : IndicationEntry), b.indications[i] = some e →
      (∀ r ∈ e.inputs, b.relays[r] ≠ .none) ∧ (b.patterns[e.pattern]).loaded = true

theorem relayError_none_iff {b : Bank} {r : RelayIdx} {c : RelayCommon} (common : (b.relays[r]).common = some c) :
    b.relayError r = none ↔ (b.cards[c.card]).enable = true ∧ ¬(b.relays[r]).sameBit = true ∧
      ¬b.inputShared r = true ∧ ¬(b.relays[r]).badFlash = true ∧ (b.classes[c.flickerClass]).loaded = true := by
  rw [relayError_some common]
  generalize (b.cards[c.card]).enable = enable, (b.relays[r]).sameBit = sameBit, b.inputShared r = shared,
    (b.relays[r]).badFlash = badFlash, (b.classes[c.flickerClass]).loaded = loaded
  split_ifs <;> simp [*]

/-- A shared input is found from the entry of the higher index, so no entry finds one exactly where no two entries share
one (R132). -/
theorem relayErrors_none_iff (b : Bank) : (∀ r, b.relayError r = none) ↔
    ∀ (r : RelayIdx) (c : RelayCommon), (b.relays[r]).common = some c → LawfulRelay b r c := by
  constructor
  · intro none r c common
    obtain ⟨enabled, bits, shared, flash, loaded⟩ := (relayError_none_iff common).1 (none r)
    rw [sameBit_iff] at bits
    rw [inputShared_iff common] at shared
    rw [badFlash_iff common] at flash
    refine ⟨enabled, loaded, fun x y l k paired same => bits ⟨x, l, k, by rw [paired, same]⟩, fun f present => ?_,
      fun q d other names card x here there => ?_⟩
    · exact Nat.not_lt.1 fun bad => flash ⟨f, present, bad⟩
    rcases lt_or_gt_of_ne other with lower | higher
    · exact shared ⟨q, d, lower, names, card.symm, x, here, there⟩
    · obtain ⟨-, -, notShared, -⟩ := (relayError_none_iff names).1 (none q)
      exact notShared ((inputShared_iff names).2 ⟨r, c, higher, common, card, x, there, here⟩)
  · intro lawful r
    cases common : (b.relays[r]).common with
    | none =>
      unfold Bank.relayError
      simp only [common]
    | some c =>
      obtain ⟨enabled, loaded, bits, flash, apart⟩ := lawful r c common
      rw [relayError_none_iff common, sameBit_iff, inputShared_iff common, badFlash_iff common]
      refine ⟨enabled, ?_, ?_, ?_, loaded⟩
      · rintro ⟨x, l, k, paired⟩
        exact bits x x l k paired rfl
      · rintro ⟨q, d, lower, names, card, x, here, there⟩
        exact apart q d (ne_of_lt lower) names card.symm x here there
      · rintro ⟨f, present, bad⟩
        exact absurd (flash f present) (Nat.not_le.2 bad)

theorem passes_iff_lawfulBank (b : Bank) : b.passes = true ↔ LawfulBank b := by
  have cards (c : CardIdx) : b.cardError c = none ↔ (b.cards[c]).windowOpen < (b.cards[c]).windowClose := by
    unfold Bank.cardError
    generalize b.cards[c] = e
    simp
  have classes (k : ClassIdx) :
      b.classError k = none ↔ ((b.classes[k]).loaded = true → (b.classes[k]).lower < (b.classes[k]).upper) := by
    unfold Bank.classError
    generalize b.classes[k] = r
    simp
  have indications (i : IndicationIdx) : b.indicationError i = none ↔ ∀ e, b.indications[i] = some e →
      (∀ r ∈ e.inputs, b.relays[r] ≠ .none) ∧ (b.patterns[e.pattern]).loaded = true := by
    unfold Bank.indicationError
    cases b.indications[i] with
    | none => simp
    | some e =>
      dsimp only
      split_ifs <;> simp_all
  rw [passes_iff]
  unfold LawfulBank
  rw [← relayErrors_none_iff]
  constructor
  · intro none
    exact ⟨fun c => (cards c).1 (none (.card c)), fun k => (classes k).1 (none (.cls k)), fun r => none (.relay r),
      fun i => (indications i).1 (none (.indication i))⟩
  · rintro ⟨windows, hysteresis, relays, defined⟩ it
    cases it with
    | card c => exact (cards c).2 (windows c)
    | cls k => exact (classes k).2 (hysteresis k)
    | relay r => exact relays r
    | indication i => exact (indications i).2 (defined i)

/-! ### The two ends of a check (R133 to R135, R151) -/

/-- Settles O39: a bank passes exactly where no record's tests find an error, and that is what `LawfulBank` says. -/
theorem checkPassesExactlyALawfulBank : Obligations.CheckPassesExactlyALawfulBank := by
  intro s w checking b lawful
  have passes : b.passes = true ↔ lawful := passes_iff_lawfulBank b
  refine ⟨passes, fun sound => ⟨?_, ?_⟩, fun unsound => ?_⟩
  · have clean : s.tables.staging.checkFrom 0 = none := Option.isNone_iff_eq_none.1 (passes.2 sound)
    show execCheckRefused s = .next s
    unfold execCheckRefused
    rw [checking]
    dsimp only
    rw [clean]
  · have clean : (s.tables.staging.checkFrom 0).isNone = true := passes.2 sound
    show execCheckPass s = _
    unfold execCheckPass
    rw [checking]
    dsimp only
    rw [if_pos clean]
  · have found : ¬(s.tables.staging.checkFrom 0).isNone = true := fun clean => unsound (passes.1 clean)
    show execCheckPass s = .next s
    unfold execCheckPass
    rw [checking]
    dsimp only
    rw [if_neg found]

/-- A check that ends at an error: the checker is IDLE, the REFUSED joins the deferred answers, and COMMIT_REFUSED has its
event (R134, R151, R158). -/
theorem checkRefused_ends {s : State} {w : CommitWork} {kind : ErrorKind} {index : Nat}
    (checking : s.tables.checker = .checking w 0) (found : s.tables.staging.checkFrom 0 = some (kind, index)) :
    exec .checkRefused s = .next (announce [] [cCommitRefused] []
      (deferAnswer w .refused (kind.byte :: be16 (BitVec.ofNat 16 index)) (s.setTables { s.tables with checker := .idle }))) := by
  show execCheckRefused s = _
  unfold execCheckRefused
  rw [checking]
  dsimp only
  rw [found]

/-- Settles O40: the first record that fails is the one at which the check ends. -/
theorem checkRefusedAtTheFirstFailure : Obligations.CheckRefusedAtTheFirstFailure := by
  refine fun s => ⟨fun w it kind checking fails first => ?_, fun f rest deferred => ⟨fun room => ?_, fun full => ?_⟩⟩
  · obtain ⟨error, found, rfl⟩ := Option.map_eq_some_iff.1 ((fails_iff _ it kind).1 fails)
    have before (x : CheckItem) (lower : x.rank < it.rank) : s.tables.staging.itemError x = none := by
      refine Option.eq_none_iff_forall_ne_some.2 fun k error => first x k.byte lower ?_
      rw [fails_iff, error, Option.map_some]
    have ends := checkRefused_ends checking (checkFrom_zero_of_first found before)
    have index : it.index = it.ownIndex := by cases it <;> rfl
    refine ⟨_, ends, by simp, ?_, fun enabled => ?_, changesOnly_mono _ (exec_changesOnly .checkRefused s _ ends)⟩
    · rw [announce_link, deferAnswer_spec, index]
      split
      · rfl
      · rw [List.append_nil]
        rfl
    · refine announce_latched [] [] ?_
      rw [deferAnswer_conditions]
      exact enabled
  · show execDeferredAnswerPlaced s = _
    unfold execDeferredAnswerPlaced
    rw [deferred]
    dsimp only
    rw [if_pos (show s.hasRoom = true from decide_eq_true room)]
    rfl
  · show execDeferredAnswerPlaced s = .next s
    unfold execDeferredAnswerPlaced
    rw [deferred]
    dsimp only
    rw [if_neg (show ¬s.hasRoom = true from fun h => absurd (of_decide_eq_true h) (Nat.not_lt.2 full))]

end Sys2Proof.Proofs
